-- ==== Sys2Proof/Word.lean ====
section
/-! DEFINITION. The value types of the block: bytes, 16-bit axis patterns, command words (rule R6). -/

namespace Sys2Proof

/-- `u8` of rule R6; an `i8` is the same eight bits read by `BitVec.toInt`. -/
abbrev Byte := BitVec 8

/-- A 16-bit pattern; an `i16` of rule R6 is the same sixteen bits read by `BitVec.toInt`. -/
abbrev Half := BitVec 16

/-- The 64-bit command word of rule R70. -/
abbrev Command := BitVec 64

/-- The byte 0 or 1 that carries a `u1`. -/
def bitByte (b : Bool) : Byte := if b then 1 else 0

end Sys2Proof
end

