-- ==== Sys2Proof/Config.lean ====
section
/-! DEFINITION. What a run of the block fixes once: the constants of rule R4, the wire profile of
rule R76, the two remaining parameters of rule R5, and the free values the spec leaves open. -/

namespace Sys2Proof

/-- `QCAP` of rule R4: slots in each ring buffer. -/
abbrev qcap : Nat := 50
/-- `LEDN` of rule R4: cells of LedFrame. -/
abbrev ledn : Nat := 256
/-- `ARC_RINGS` of rule R4. -/
abbrev arcRings : Nat := 4
/-- `RING_LEDS` of rule R4. -/
abbrev ringLeds : Nat := 64
/-- `NTILT` of rule R4. -/
abbrev ntilt : Nat := 4

/-- The RX frame kinds of rule R77. -/
inductive RxKind where
  | key (pressed : Bool)
  | enc
  | infoCaps
  | infoId
  | size
  | rot
  | skip (n : Nat)
  deriving DecidableEq, Repr

/-- The TX frame kinds of rule R78. -/
inductive TxKind where
  | size
  | rot
  | gmap
  | amap
  | tilt
  deriving DecidableEq, Repr

/-- One entry of the RX table: command byte, kind, payload length (rule R76). -/
structure RxEntry where
  cmd : Byte
  kind : RxKind
  plen : Nat
  deriving DecidableEq, Repr

/-- One entry of the TX table: command byte and payload length (rule R76). -/
structure TxEntry where
  cmd : Byte
  plen : Nat
  deriving DecidableEq, Repr

/-- `TILT_ORDER` of rules R5, R47: `le` sends the low byte of an axis first. -/
inductive TiltOrder where
  | le
  | be
  deriving DecidableEq, Repr

/-- `ROT_DIR` of rules R5, R59. -/
inductive RotDir where
  | cw
  | ccw
  deriving DecidableEq, Repr

/-- `pack` of rule R5: the default identity, or an arbitrary packing of which nothing is known
(`Config.packByte`). -/
inductive PackSel where
  | identity
  | custom
  deriving DecidableEq, Repr

/-- `caps_apply` of rule R5: the default identity on the dimensions, or an arbitrary total function
of which nothing is known (`Config.capsApply`). -/
inductive CapsSel where
  | identity
  | custom
  deriving DecidableEq, Repr

/-- The wire profile `PROFILE` of rule R76: a parameter of the model, not state of the block. -/
structure Profile where
  /-- The RX table, a finite map from command bytes (rule R76). -/
  rxTable : List RxEntry
  /-- The TX table: exactly one entry per TX kind (rule R76). -/
  txSize : TxEntry
  txRot : TxEntry
  txGmap : TxEntry
  txAmap : TxEntry
  txTilt : TxEntry
  /-- `QUERY_SEQ`: the bytes of the device-info query (rules R78, R192). -/
  querySeq : List Byte
  /-- `ID_LEN`: bytes of `deviceID` (rule R25). -/
  idLen : Nat
  /-- `PACKLEN`: bytes that 64 packed levels take (rule R78). -/
  packLen : Nat
  pack : PackSel
  caps : CapsSel
  tiltOrder : TiltOrder
  deriving DecidableEq, Repr

/-- Every open parameter of rule R5. No step of the machine changes it. -/
structure Params where
  profile : Profile
  /-- `AUTONOMOUS_RX`: PROD may issue RXBYTE. -/
  autonomousRx : Bool
  rotDir : RotDir
  deriving DecidableEq, Repr

/-- What ENV answers to one `TxEmit` (rule R44): all bytes taken, or only the first `sent` of them
(all of them at most) and a failure. -/
inductive TxOutcome where
  | ok
  | fail (sent : Nat)
  deriving DecidableEq, Repr, Inhabited

namespace Config

/-- FREE VALUE (rule R44, item U5): ENV's answer to the `n`-th `TxEmit` of a run once the outcomes
written down in `State.txPlan` are used up (log entry 3). -/
opaque txOutcome : Nat → TxOutcome

/-- FREE VALUE (rules R5, R126, R76): a `caps_apply` of which nothing is assumed, on
`(c0, c1, rows, columns, encoders)` (log entry 8). -/
opaque capsApply : Byte → Byte → Byte → Byte → Byte → Byte × Byte × Byte

/-- FREE VALUE (rules R5, R78): byte `k` of `pack(L)` for a `pack` of which nothing is assumed
(log entry 8). -/
opaque packByte : List Byte → Nat → Byte

end Config

/-- The payload length rule R77 gives an RX kind. -/
def Profile.rxPlen (p : Profile) : RxKind → Nat
  | .key _ => 2
  | .enc => 2
  | .infoCaps => 2
  | .infoId => p.idLen
  | .size => 2
  | .rot => 1
  | .skip n => n

/-- The payload length rule R78 gives a TX kind. -/
def Profile.txPlen (p : Profile) : TxKind → Nat
  | .size => 2
  | .rot => 1
  | .gmap => 2 + p.packLen
  | .amap => 1 + p.packLen
  | .tilt => 7

/-- The entry of the first command byte that stands for a kind, if the table has one. -/
def Profile.rxKindEntry (p : Profile) (k : RxKind) : Option RxEntry :=
  p.rxTable.find? fun e => e.kind == k

end Sys2Proof
end

