-- ==== Sys2Proof/Syntax.lean ====
section
/-! DEFINITION. The operations and frames of the block: one constructor per row of
`spec/opcode_table.json` (rule R72 for the port operations, rules R77 and R78 for the frames). -/

namespace Sys2Proof

/-- One row of the opcode table with its operands (rules R72, R77, R78, R82). A `u1` operand is a
`Bool`: the other bits of its byte are ignored (rule R82). -/
inductive Instr where
  -- Port operations: the event queue (rules R104 to R109)
  | addg (x y : Byte) (pressed : Bool)
  | adda (index delta : Byte)
  | gavail
  | aavail
  | rdg
  | rda
  -- Port operations: the decode path (rules R120, R121)
  | poll
  | rxbyte
  -- Port operations: the encode path (rules R152 to R163)
  | setgled (x y level : Byte)
  | clrgled (x y : Byte)
  | setaled (ring led level : Byte)
  | clraled (ring led : Byte)
  | setall (level : Byte)
  | clrall
  | clrring (ring : Byte)
  | refreshg
  | refresha
  | refresh
  | sendsize
  | sendrot
  -- Port operations: the controller (rules R191 to R196)
  | init
  | getinfo
  | setupg (rows columns : Byte)
  | setupa (encoders : Byte)
  | setrot (r : Byte)
  | rdreg (n : Byte)
  -- Port operations: the tilt tracker (rules R210, R211)
  | settilt (sensor : Byte) (active : Bool)
  | sendtilt (sensor : Byte) (x y z : Half)
  -- Frames received (rules R124 to R129)
  | rxInfoCaps (c0 c1 : Byte)
  | rxInfoId (id : List Byte)
  | rxSize (s0 s1 : Byte)
  | rxRot (r : Byte)
  | rxKeyup (xp yp : Byte)
  | rxKeydn (xp yp : Byte)
  | rxEnc (n d : Byte)
  -- Frames sent (rule R78) and the device-info query (rule R192)
  | txSize (p0 p1 : Byte)
  | txRot (r : Byte)
  | txGmap (xo yo : Byte) (levels : List Byte)
  | txAmap (ring : Byte) (levels : List Byte)
  | txTilt (sensor : Byte) (x y z : Half)
  | txQuery
  deriving DecidableEq, Repr

end Sys2Proof
end

