-- ==== Sys2Proof/WellFormed.lean ====
section
/-! DEFINITION. What makes a profile well-formed (rule R76) and an instruction well-formed under a
profile (rules R77, R78). -/

namespace Sys2Proof

/-- Rule R76: one RX entry per command byte at most, every payload length the one its kind has,
a non-empty query; the identity `pack` keeps all 64 levels (rule R78; DEDUCED, log entry 16). -/
def Profile.wf (p : Profile) : Bool :=
  decide (p.rxTable.map (·.cmd)).Nodup
    && p.rxTable.all (fun e => e.plen == p.rxPlen e.kind)
    && p.txSize.plen == p.txPlen .size
    && p.txRot.plen == p.txPlen .rot
    && p.txGmap.plen == p.txPlen .gmap
    && p.txAmap.plen == p.txPlen .amap
    && p.txTilt.plen == p.txPlen .tilt
    && p.querySeq != []
    && (p.pack != .identity || p.packLen == 64)

/-- The TX table and the query can be told apart by their first byte. Rule R76 does not ask for it:
only reading a sent frame back needs it. -/
def Profile.txDistinct (p : Profile) : Bool :=
  decide ([p.txSize.cmd, p.txRot.cmd, p.txGmap.cmd, p.txAmap.cmd, p.txTilt.cmd].Nodup)
    && [p.txSize.cmd, p.txRot.cmd, p.txGmap.cmd, p.txAmap.cmd, p.txTilt.cmd].all
        (fun c => p.querySeq.head? != some c)

/-- The RX table has an entry of the kind (rule R77: a profile may leave a kind out). -/
def Profile.hasKind (p : Profile) (k : RxKind) : Bool := (p.rxKindEntry k).isSome

/-- Well-formedness of an instruction under a profile. Every port operation with operands of its
format is well-formed (rules R71, R72). A received frame needs its kind in the RX table and a payload
of its length (rule R77). A sent frame obeys the layout of rule R78. -/
def Instr.wellFormed (p : Profile) : Instr → Bool
  | .addg _ _ _ => true
  | .adda _ _ => true
  | .gavail => true
  | .aavail => true
  | .rdg => true
  | .rda => true
  | .poll => true
  | .rxbyte => true
  | .setgled _ _ _ => true
  | .clrgled _ _ => true
  | .setaled _ _ _ => true
  | .clraled _ _ => true
  | .setall _ => true
  | .clrall => true
  | .clrring _ => true
  | .refreshg => true
  | .refresha => true
  | .refresh => true
  | .sendsize => true
  | .sendrot => true
  | .init => true
  | .getinfo => true
  | .setupg _ _ => true
  | .setupa _ => true
  | .setrot _ => true
  | .rdreg _ => true
  | .settilt _ _ => true
  | .sendtilt _ _ _ _ => true
  | .rxInfoCaps _ _ => p.hasKind .infoCaps
  | .rxInfoId id => p.hasKind .infoId && id.length == p.idLen
  | .rxSize _ _ => p.hasKind .size
  | .rxRot _ => p.hasKind .rot
  | .rxKeyup _ _ => p.hasKind (.key false)
  | .rxKeydn _ _ => p.hasKind (.key true)
  | .rxEnc _ _ => p.hasKind .enc
  | .txSize _ _ => true
  | .txRot r => decide (r.toNat ≤ 3)
  | .txGmap xo yo levels =>
    xo.toNat % 8 == 0 && yo.toNat % 8 == 0 && levels.length == p.packLen
  | .txAmap ring levels => decide (ring.toNat < arcRings) && levels.length == p.packLen
  | .txTilt sensor _ _ _ => decide (sensor.toNat < ntilt)
  | .txQuery => true

end Sys2Proof
end

