-- ==== Sys2Proof/Decode.lean ====
section
/-! DEFINITION. The default profile, decoding of command words and of whole frames, and the encoder,
from the tables of rules R70 to R83. -/

namespace Sys2Proof

/-! ### The profile's tables at work, and the default profile -/

/-- The TX table as a map from kinds (rule R76). -/
def Profile.txEntry (p : Profile) : TxKind → TxEntry
  | .size => p.txSize
  | .rot => p.txRot
  | .gmap => p.txGmap
  | .amap => p.txAmap
  | .tilt => p.txTilt

/-- `RXTAB(b)` of rule R122: the entry of a command byte, if it has one. -/
def Profile.rxEntry (p : Profile) (b : Byte) : Option RxEntry :=
  p.rxTable.find? fun e => e.cmd == b

/-- `MAXPLEN` of rules R5, R76: the largest RX payload length, the size of the assembly buffer. -/
def Profile.maxPlen (p : Profile) : Nat :=
  p.rxTable.foldr (fun e m => max e.plen m) 0

/-- REFPROFILE, rules R80 and R81. -/
def refProfile : Profile where
  rxTable :=
    [⟨0x00, .infoCaps, 2⟩, ⟨0x01, .infoId, 32⟩, ⟨0x03, .size, 2⟩, ⟨0x0A, .rot, 1⟩,
     ⟨0x20, .key false, 2⟩, ⟨0x21, .key true, 2⟩, ⟨0x50, .enc, 2⟩]
  txSize := ⟨0x06, 2⟩
  txRot := ⟨0x0A, 1⟩
  txGmap := ⟨0x1A, 66⟩
  txAmap := ⟨0x92, 65⟩
  txTilt := ⟨0x81, 7⟩
  querySeq := [0x00, 0x01]
  idLen := 32
  packLen := 64
  pack := .identity
  caps := .identity
  tiltOrder := .le

/-- The default parameters of rule R5 (log entry 4). -/
def Params.default : Params where
  profile := refProfile
  autonomousRx := true
  rotDir := .cw

/-- Why bits are not an instruction. -/
inductive DecodeError where
  /-- `op` is not in the operation map (rules R73, R229). -/
  | illegalOp (op : Byte)
  /-- The frame's first byte has no table entry (rules R83, R131). -/
  | unknownCommand (cmd : Byte)
  /-- There is no first byte. -/
  | emptyFrame
  /-- The bytes after the command byte are not as many as its kind has (rule R75). -/
  | badLength (cmd : Byte)
  /-- A frame the profile names only to have it skipped (rule R130). -/
  | skippedFrame (cmd : Byte)
  /-- A sent frame whose payload breaks the layout of rule R78. -/
  | badLayout (cmd : Byte)
  deriving DecidableEq, Repr

/-- What an instruction is encoded as: a command word on a port (rule R70), a frame received or a
frame sent (rule R75). Direction tells the two frame tables apart (rule R76). -/
inductive Encoding where
  | command (cw : Command)
  | rxFrame (bytes : List Byte)
  | txFrame (bytes : List Byte)
  deriving DecidableEq, Repr

/-! ### The command word (rules R70, R71) -/

/-- `op = cw[63:56]`. -/
def opField (cw : Command) : Byte := cw.extractLsb' 56 8
/-- `a = cw[55:48]`, and `s` of format `T`. -/
def aField (cw : Command) : Byte := cw.extractLsb' 48 8
/-- `b = cw[47:40]`. -/
def bField (cw : Command) : Byte := cw.extractLsb' 40 8
/-- `c = cw[39:32]`. -/
def cField (cw : Command) : Byte := cw.extractLsb' 32 8
/-- `x = cw[47:32]` of format `T`. -/
def xField (cw : Command) : Half := cw.extractLsb' 32 16
/-- `y = cw[31:16]` of format `T`. -/
def yField (cw : Command) : Half := cw.extractLsb' 16 16
/-- `z = cw[15:0]` of format `T`. -/
def zField (cw : Command) : Half := cw.extractLsb' 0 16

/-- Bit 0 of a byte: the only bit of ADDG's `c` and SETTILT's `b` that is used (rule R82). -/
def bitZero (b : Byte) : Bool := b.getLsbD 0

/-- The operation map of rule R72; every other `op` is illegal (rule R73). -/
def decodeCommand (cw : Command) : Except DecodeError Instr :=
  match opField cw with
  | 0x10#8 => .ok (.addg (aField cw) (bField cw) (bitZero (cField cw)))
  | 0x11#8 => .ok (.adda (aField cw) (bField cw))
  | 0x12#8 => .ok .gavail
  | 0x13#8 => .ok .aavail
  | 0x14#8 => .ok .rdg
  | 0x15#8 => .ok .rda
  | 0x20#8 => .ok .poll
  | 0x21#8 => .ok .rxbyte
  | 0x30#8 => .ok (.setgled (aField cw) (bField cw) (cField cw))
  | 0x31#8 => .ok (.clrgled (aField cw) (bField cw))
  | 0x32#8 => .ok (.setaled (aField cw) (bField cw) (cField cw))
  | 0x33#8 => .ok (.clraled (aField cw) (bField cw))
  | 0x34#8 => .ok (.setall (aField cw))
  | 0x35#8 => .ok .clrall
  | 0x36#8 => .ok (.clrring (aField cw))
  | 0x37#8 => .ok .refreshg
  | 0x38#8 => .ok .refresha
  | 0x39#8 => .ok .refresh
  | 0x3A#8 => .ok .sendsize
  | 0x3B#8 => .ok .sendrot
  | 0x40#8 => .ok .init
  | 0x41#8 => .ok .getinfo
  | 0x42#8 => .ok (.setupg (aField cw) (bField cw))
  | 0x43#8 => .ok (.setupa (aField cw))
  | 0x44#8 => .ok (.setrot (aField cw))
  | 0x45#8 => .ok (.rdreg (aField cw))
  | 0x50#8 => .ok (.settilt (aField cw) (bitZero (bField cw)))
  | 0x51#8 => .ok (.sendtilt (aField cw) (xField cw) (yField cw) (zField cw))
  | op => .error (.illegalOp op)

/-! ### Received frames (rules R75, R77, R83) -/

/-- The instruction of a whole frame of a known kind (rule R77). -/
def rxInstr (cmd : Byte) : RxKind → List Byte → Except DecodeError Instr
  | .key false, [xp, yp] => .ok (.rxKeyup xp yp)
  | .key true, [xp, yp] => .ok (.rxKeydn xp yp)
  | .enc, [n, d] => .ok (.rxEnc n d)
  | .infoCaps, [c0, c1] => .ok (.rxInfoCaps c0 c1)
  | .infoId, id => .ok (.rxInfoId id)
  | .size, [s0, s1] => .ok (.rxSize s0 s1)
  | .rot, [r] => .ok (.rxRot r)
  | .skip _, _ => .error (.skippedFrame cmd)
  | _, _ => .error (.badLength cmd)

/-- One whole received frame: the first byte alone gives the length (rule R83). -/
def decodeRx (p : Profile) : List Byte → Except DecodeError Instr
  | [] => .error .emptyFrame
  | cmd :: payload =>
    match p.rxEntry cmd with
    | none => .error (.unknownCommand cmd)
    | some e =>
      if payload.length = e.plen then rxInstr cmd e.kind payload else .error (.badLength cmd)

/-! ### Sent frames (rules R47, R78) -/

/-- The two bytes of an axis in wire order (rule R47). -/
def axisBytes (o : TiltOrder) (v : Half) : List Byte :=
  match o with
  | .le => [v.extractLsb' 0 8, v.extractLsb' 8 8]
  | .be => [v.extractLsb' 8 8, v.extractLsb' 0 8]

/-- The axis that two bytes in wire order carry (rule R47). -/
def axisValue (o : TiltOrder) (b0 b1 : Byte) : Half :=
  match o with
  | .le => b1 ++ b0
  | .be => b0 ++ b1

/-- The TX kind a command byte stands for: the first of the table's five (rule R76). -/
def txKindOf (p : Profile) (cmd : Byte) : Option TxKind :=
  if cmd = p.txSize.cmd then some .size
  else if cmd = p.txRot.cmd then some .rot
  else if cmd = p.txGmap.cmd then some .gmap
  else if cmd = p.txAmap.cmd then some .amap
  else if cmd = p.txTilt.cmd then some .tilt
  else none

/-- The instruction of a sent frame of a known kind (rule R78). -/
def txInstr (p : Profile) (cmd : Byte) : TxKind → List Byte → Except DecodeError Instr
  | .size, [p0, p1] => .ok (.txSize p0 p1)
  | .rot, [r] => if r.toNat ≤ 3 then .ok (.txRot r) else .error (.badLayout cmd)
  | .gmap, xo :: yo :: levels =>
    if levels.length ≠ p.packLen then .error (.badLength cmd)
    else if xo.toNat % 8 = 0 ∧ yo.toNat % 8 = 0 then .ok (.txGmap xo yo levels)
    else .error (.badLayout cmd)
  | .amap, ring :: levels =>
    if levels.length ≠ p.packLen then .error (.badLength cmd)
    else if ring.toNat < arcRings then .ok (.txAmap ring levels)
    else .error (.badLayout cmd)
  | .tilt, [s, x0, x1, y0, y1, z0, z1] =>
    if s.toNat < ntilt then
      .ok (.txTilt s (axisValue p.tiltOrder x0 x1) (axisValue p.tiltOrder y0 y1)
        (axisValue p.tiltOrder z0 z1))
    else .error (.badLayout cmd)
  | _, _ => .error (.badLength cmd)

/-- One whole sent frame, or the device-info query (rule R78). -/
def decodeTx (p : Profile) (bytes : List Byte) : Except DecodeError Instr :=
  if bytes = p.querySeq then .ok .txQuery
  else
    match bytes with
    | [] => .error .emptyFrame
    | cmd :: payload =>
      match txKindOf p cmd with
      | none => .error (.unknownCommand cmd)
      | some k => txInstr p cmd k payload

/-- The decoder, total on every encoding. -/
def decode (p : Profile) : Encoding → Except DecodeError Instr
  | .command cw => decodeCommand cw
  | .rxFrame bytes => decodeRx p bytes
  | .txFrame bytes => decodeTx p bytes

/-! ### The encoder -/

/-- Format `N` (rule R71), unused bits zero. -/
def formatN (op : Byte) : Command := op ++ (0 : BitVec 56)
/-- Format `A`. -/
def formatA (op a : Byte) : Command := op ++ a ++ (0 : BitVec 48)
/-- Format `AB`. -/
def formatAB (op a b : Byte) : Command := op ++ a ++ b ++ (0 : BitVec 40)
/-- Format `ABC`. -/
def formatABC (op a b c : Byte) : Command := op ++ a ++ b ++ c ++ (0 : BitVec 32)
/-- Format `T`. -/
def formatT (op s : Byte) (x y z : Half) : Command := op ++ s ++ x ++ y ++ z

/-- A received frame of a kind, if the RX table has the kind (rule R77). -/
def encodeRx (p : Profile) (k : RxKind) (payload : List Byte) : Option Encoding :=
  (p.rxKindEntry k).map fun e => .rxFrame (e.cmd :: payload)

/-- The bytes of a sent frame (rules R75, R150). -/
def txFrameBytes (p : Profile) (k : TxKind) (payload : List Byte) : List Byte :=
  (p.txEntry k).cmd :: payload

/-- The payload of a tilt frame (rule R78). -/
def tiltPayload (p : Profile) (s : Byte) (x y z : Half) : List Byte :=
  s :: (axisBytes p.tiltOrder x ++ axisBytes p.tiltOrder y ++ axisBytes p.tiltOrder z)

/-- The encoding of an instruction; `none` for a received frame whose kind the profile lacks. -/
def encode (p : Profile) : Instr → Option Encoding
  | .addg x y pressed => some (.command (formatABC 0x10 x y (bitByte pressed)))
  | .adda index delta => some (.command (formatAB 0x11 index delta))
  | .gavail => some (.command (formatN 0x12))
  | .aavail => some (.command (formatN 0x13))
  | .rdg => some (.command (formatN 0x14))
  | .rda => some (.command (formatN 0x15))
  | .poll => some (.command (formatN 0x20))
  | .rxbyte => some (.command (formatN 0x21))
  | .setgled x y level => some (.command (formatABC 0x30 x y level))
  | .clrgled x y => some (.command (formatAB 0x31 x y))
  | .setaled ring led level => some (.command (formatABC 0x32 ring led level))
  | .clraled ring led => some (.command (formatAB 0x33 ring led))
  | .setall level => some (.command (formatA 0x34 level))
  | .clrall => some (.command (formatN 0x35))
  | .clrring ring => some (.command (formatA 0x36 ring))
  | .refreshg => some (.command (formatN 0x37))
  | .refresha => some (.command (formatN 0x38))
  | .refresh => some (.command (formatN 0x39))
  | .sendsize => some (.command (formatN 0x3A))
  | .sendrot => some (.command (formatN 0x3B))
  | .init => some (.command (formatN 0x40))
  | .getinfo => some (.command (formatN 0x41))
  | .setupg rows columns => some (.command (formatAB 0x42 rows columns))
  | .setupa encoders => some (.command (formatA 0x43 encoders))
  | .setrot r => some (.command (formatA 0x44 r))
  | .rdreg n => some (.command (formatA 0x45 n))
  | .settilt sensor active => some (.command (formatAB 0x50 sensor (bitByte active)))
  | .sendtilt sensor x y z => some (.command (formatT 0x51 sensor x y z))
  | .rxInfoCaps c0 c1 => encodeRx p .infoCaps [c0, c1]
  | .rxInfoId id => encodeRx p .infoId id
  | .rxSize s0 s1 => encodeRx p .size [s0, s1]
  | .rxRot r => encodeRx p .rot [r]
  | .rxKeyup xp yp => encodeRx p (.key false) [xp, yp]
  | .rxKeydn xp yp => encodeRx p (.key true) [xp, yp]
  | .rxEnc n d => encodeRx p .enc [n, d]
  | .txSize p0 p1 => some (.txFrame (txFrameBytes p .size [p0, p1]))
  | .txRot r => some (.txFrame (txFrameBytes p .rot [r]))
  | .txGmap xo yo levels => some (.txFrame (txFrameBytes p .gmap (xo :: yo :: levels)))
  | .txAmap ring levels => some (.txFrame (txFrameBytes p .amap (ring :: levels)))
  | .txTilt sensor x y z => some (.txFrame (txFrameBytes p .tilt (tiltPayload p sensor x y z)))
  | .txQuery => some (.txFrame p.querySeq)

/-! ### The rows of the opcode table -/

/-- The `n` bytes of a number, least significant first: byte 0 of a frame is bits 7..0 of a row. -/
def bytesOf (n w : Nat) : List Byte :=
  (List.range n).map fun i => BitVec.ofNat 8 (w >>> (8 * i))

/-- The instruction a decoder gives, if it gives one. -/
def decoded : Except DecodeError Instr → Option Instr
  | .ok i => some i
  | .error _ => none

/-- The instruction of an opcode-table row of `nbits` bits under REFPROFILE. A row of 64 bits is a
command word; where its `op` is illegal it is read as a sent frame. A row of another width is a frame,
byte 0 in bits 7..0: a received frame if it is one, else a sent one. The two rows with command byte
0x0A have the same words (rules R80, R81): they read as the received frame. The row TX_QUERY writes its
byte list first byte most significant, so its word is also read in that order. DESIGN CHOICE, log
entry 13. -/
def decodeTableWord (nbits w : Nat) : Option Instr :=
  let bytes := bytesOf (nbits / 8) w
  (if nbits = 64 then decoded (decodeCommand (BitVec.ofNat 64 w)) else none)
    <|> decoded (decodeRx refProfile bytes)
    <|> decoded (decodeTx refProfile bytes)
    <|> (if bytes.reverse = refProfile.querySeq then some .txQuery else none)

end Sys2Proof
end

