-- ==== Sys2Proof/Machine/State.lean ====
section
/-! DEFINITION. The state of the block (rules R10 to R36), of the three agents that act on it (rules
R43, R44, R51) and of the operation in progress (rules R8, R52), and the reset state (rule R36). -/

namespace Sys2Proof.Machine

/-- One address space of rule R40: the cells that do not hold the space's zero value, by rising
address. The zero value is what an unlisted cell reads as; it is the reset value of rule R36 (for
slots and the assembly buffer, whose contents at reset are unobservable, item U1). -/
abbrev Memory (α : Type) := List (Nat × α)

/-- GridEvent of rule R11. -/
structure GridEvent where
  x : Byte
  y : Byte
  pressed : Bool
  deriving DecidableEq, Repr

/-- The all-zero grid event: the sentinel of rule R102. -/
def GridEvent.zero : GridEvent := ⟨0, 0, false⟩

/-- ArcEvent of rule R12; `delta` is an `i8`, read by `BitVec.toInt`. -/
structure ArcEvent where
  index : Byte
  delta : Byte
  deriving DecidableEq, Repr

/-- The all-zero arc event: the sentinel of rule R103. -/
def ArcEvent.zero : ArcEvent := ⟨0, 0⟩

/-- One ring buffer: slots, head and count (rules R11, R12, R18). The tail is derived. -/
structure Ring (α : Type) where
  buf : Memory α
  head : Nat
  count : Nat
  deriving DecidableEq, Repr

/-- `rx.state` of rule R17. -/
inductive RxState where
  | idle
  | collect
  deriving DecidableEq, Repr

/-- The RX framer: its sequencer (rule R17) and its assembly buffer (rule R13). -/
structure Framer where
  state : RxState
  cmd : Byte
  need : Nat
  cnt : Nat
  buf : Memory Byte
  deriving DecidableEq, Repr

/-- One record of the tilt cache (rules R30, R31). -/
structure TiltRec where
  active : Bool
  reported : Bool
  lastX : Half
  lastY : Half
  lastZ : Half
  deriving DecidableEq, Repr

/-- The reset value of a tilt record (rule R36). -/
def TiltRec.zero : TiltRec := ⟨false, false, 0, 0, 0⟩

/-- The address spaces of rule R40. -/
inductive Space where
  | gq
  | aq
  | led
  | fb
  | tilt
  deriving DecidableEq, Repr

/-- Which queue a condition or label is about (rule R220). -/
inductive QueueId where
  | grid
  | arc
  deriving DecidableEq, Repr

/-- The trace labels of rules R220, R223. -/
inductive Label where
  | protoUnknown (b : Byte)
  | protoMalformed (cmd : Byte)
  | capacityDrop (q : QueueId)
  deriving DecidableEq, Repr

/-- The fields of a response word (rule R74). -/
structure Response where
  status : Byte
  d2 : Byte
  d1 : Byte
  d0 : Byte
  deriving DecidableEq, Repr

/-- The two agents that issue port operations (rule R51). -/
inductive Agent where
  | host
  | prod
  deriving DecidableEq, Repr

/-- One turn of the total order of rule R63: which agent takes the next primitive step (log entry
5). -/
inductive Turn where
  /-- HOST goes on with its operation, or issues its next command word. -/
  | host
  /-- PROD issues its next command word. -/
  | prod
  /-- ENV performs `ByteArrive(b)` (rule R43). -/
  | byteArrive (b : Byte)
  /-- ENV performs `TransportDown()` (rule R45). -/
  | transportDown
  deriving DecidableEq, Repr

/-- The compound operation HOST has in progress, with its local variables (rules R8, R52; log entries
7, 17). -/
inductive Job where
  | idle
  /-- POLL: the snapshot `k` and the bytes taken `n` (rule R121). -/
  | poll (k n : Nat)
  /-- The grid loop of REFRESHG or REFRESH: the dimensions it read, the next quad in row-major order,
  and whether the arc part of REFRESH follows (rules R159, R161). -/
  | gridFrames (w h quad : Nat) (thenArc : Bool)
  /-- The arc loop of REFRESHA or REFRESH: the ring count it read and the next ring (rule R160). -/
  | arcFrames (rings ring : Nat)
  deriving DecidableEq, Repr

/-- The whole machine: the block, the transport and the agents. -/
structure State where
  /-- Grid ring buffer (rules R11, R18). -/
  gq : Ring GridEvent
  /-- Arc ring buffer (rules R12, R18). -/
  aq : Ring ArcEvent
  /-- LedFrame, 256 bytes (rule R41). -/
  led : Memory Byte
  /-- RX framer (rules R13, R17). -/
  rx : Framer
  /-- Tilt cache, four records (rules R30, R31). -/
  tilt : Memory TiltRec
  /-- `deviceID`, `ID_LEN` bytes (rule R25). -/
  deviceId : Memory Byte
  /-- Rule R20. -/
  active : Bool
  /-- Rule R21. -/
  isMonome : Bool
  /-- Rule R26. -/
  probing : Bool
  /-- Rule R22. -/
  configured : Bool
  /-- Rule R22. -/
  isGrid : Bool
  /-- Rule R15. -/
  gridDirty : Bool
  /-- Rule R15. -/
  arcDirty : Bool
  /-- Rule R23. -/
  rows : Byte
  /-- Rule R23. -/
  columns : Byte
  /-- Rule R23. -/
  encoders : Byte
  /-- Rule R24. -/
  rotation : BitVec 2
  /-- The compound operation HOST has in progress (rules R8, R52). -/
  job : Job
  /-- Which agent's operation is being served: its response slot takes the response (rule R74). -/
  port : Agent
  /-- The last response HOST received (rule R74; log entry 6). -/
  hostResp : Option Response
  /-- The last response PROD received (rule R74). -/
  prodResp : Option Response
  /-- `RXS`, oldest first: ENV's (rules R35, R43). -/
  rxs : List Byte
  /-- `TXS`, oldest first: ENV's (rules R35, R44). -/
  txs : List Byte
  /-- ENV's answers to the next `TxEmit`s, next first (rule R44, item U5). -/
  txPlan : List TxOutcome
  /-- How many `TxEmit`s there have been: the argument of `Config.txOutcome`. -/
  txSeq : Nat
  /-- The total order of the coming steps (rule R63, items U4, U6); where it ends, HOST is next. -/
  schedule : List Turn
  /-- The command words HOST will issue, next first. -/
  hostProg : List Command
  /-- The command words PROD will issue, next first. -/
  prodProg : List Command
  /-- The trace labels emitted, oldest first (rule R223; log entry 12). -/
  trace : List Label
  /-- The parameters of rule R5; no step changes them. -/
  cfg : Params
  deriving DecidableEq, Repr

/-- Why the machine stops. No reachable state stops (rule R7); every reason below is an access that
rule R40 or R77 makes impossible there (log entry 10). -/
inductive Fault where
  /-- Raised by the operations on an address space when a computed cell lies outside it: rule R40
  gives the space no such cell. Safe. -/
  | noCell (space : Space) (index : Nat)
  /-- Raised by the framer when it completes a frame whose command byte is in no RX table entry: rule
  R122 starts none. Safe. -/
  | framerCommand (cmd : Byte)
  /-- Raised by `Dispatch` when a payload has not the length of its kind (rules R76, R77). Safe. -/
  | payloadShape
  deriving DecidableEq, Repr

/-- What the machine gives no meaning (log entry 11). -/
inductive Refusal where
  /-- Raised by `exec` for an instruction without a meaning. Safe. -/
  | notModelled (mnemonic : String)
  /-- Raised when an agent issues an operation on a port that rule R72 does not allow for it: "outside
  the model" (rule R73, item U8). Safe. -/
  | portNotAllowed (agent : Agent) (op : Byte)
  /-- Raised by every step under a profile that is not well-formed: "refused" (item U10). Safe. -/
  | profileNotWellFormed
  deriving DecidableEq, Repr

/-- What a step or a meaning answers. -/
abbrev Result := Host.Outcome State Fault Refusal

/-- Rules R36 and R250. DESIGN CHOICE: the unspecified cells are zero (log entry 1), the streams empty
(2), no outcome planned (3), the agents have nothing pending (5), no response (6), no label (12). -/
def State.reset : State where
  gq := ⟨[], 0, 0⟩
  aq := ⟨[], 0, 0⟩
  led := []
  rx := ⟨.idle, 0, 0, 0, []⟩
  tilt := []
  deviceId := []
  active := false
  isMonome := false
  probing := false
  configured := false
  isGrid := false
  gridDirty := false
  arcDirty := false
  rows := 0
  columns := 0
  encoders := 0
  rotation := 0
  job := .idle
  port := .host
  hostResp := none
  prodResp := none
  rxs := []
  txs := []
  txPlan := []
  txSeq := 0
  schedule := []
  hostProg := []
  prodProg := []
  trace := []
  cfg := Params.default

end Sys2Proof.Machine
end

