-- ==== Sys2Proof/Machine/Ops.lean ====
section
/-! DEFINITION. The named operations over the address spaces, the queues, the streams and the
responses; raising a condition (rules R7, R220 to R233), the one operation every condition goes
through. There is no return from a condition (rule R234). -/

namespace Sys2Proof.Machine

/-! ### Address spaces (rules R40 to R42) -/

/-- `MemRead(space, a, 1)`; `z` is the space's zero value. -/
def Memory.read {α : Type} (z : α) : Memory α → Nat → α
  | [], _ => z
  | (k, v) :: m, a => if k = a then v else Memory.read z m a

/-- `MemWrite(space, a, 1, v)`, keeping the canonical form. -/
def Memory.write {α : Type} [DecidableEq α] (z : α) : Memory α → Nat → α → Memory α
  | [], a, v => if v = z then [] else [(a, v)]
  | (k, w) :: m, a, v =>
    if a < k then (if v = z then (k, w) :: m else (a, v) :: (k, w) :: m)
    else if a = k then (if v = z then m else (a, v) :: m)
    else (k, w) :: Memory.write z m a v

/-- The canonical form from address `lo` on: rising addresses below `n`, no zero value listed. -/
def Memory.wfFrom {α : Type} [DecidableEq α] (z : α) (n : Nat) : Nat → Memory α → Bool
  | _, [] => true
  | lo, (k, v) :: m =>
    decide (lo ≤ k) && decide (k < n) && decide (v ≠ z) && Memory.wfFrom z n (k + 1) m

/-- The canonical form of a space of `n` cells. -/
def Memory.wf {α : Type} [DecidableEq α] (z : α) (n : Nat) (m : Memory α) : Bool :=
  Memory.wfFrom z n 0 m

/-- `MemRead(space, a, n)` as a list. -/
def Memory.readList {α : Type} (z : α) (m : Memory α) (a n : Nat) : List α :=
  (List.range n).map fun i => Memory.read z m (a + i)

/-- Cells `a, a+1, ...` take the values of a list, in order. -/
def Memory.writeList {α : Type} [DecidableEq α] (z : α) : Memory α → Nat → List α → Memory α
  | m, _, [] => m
  | m, a, v :: vs => Memory.writeList z (Memory.write z m a v) (a + 1) vs

/-- The `n` cells from `a` on take one value. -/
def Memory.fill {α : Type} [DecidableEq α] (z : α) (m : Memory α) (a n : Nat) (v : α) : Memory α :=
  Memory.writeList z m a (List.replicate n v)

/-- `tilt[s]` of rule R30. -/
def tiltRec (s : State) (sensor : Nat) : TiltRec := Memory.read TiltRec.zero s.tilt sensor

/-- A record of the tilt cache is replaced. -/
def setTiltRec (s : State) (sensor : Nat) (r : TiltRec) : State :=
  { s with tilt := Memory.write TiltRec.zero s.tilt sensor r }

/-! ### Outcomes -/

/-- Go on from a next state; stop where the first part stopped. -/
def andThen (o : Result) (f : State → Result) : Result :=
  match o with
  | .next s => f s
  | .fault r => .fault r
  | .refused r => .refused r

/-! ### Responses, labels and conditions -/

/-- A response goes to the agent whose operation is served (rule R74). -/
def respond (s : State) (r : Response) : State :=
  { s with
    hostResp := if s.port = .host then some r else s.hostResp
    prodResp := if s.port = .prod then some r else s.prodResp }

/-- `return (OK, d2, d1, d0)` of rule R7. -/
def done (s : State) (d2 d1 d0 : Byte) : State := respond s ⟨0x00, d2, d1, d0⟩

/-- `label L(info)` of rules R7, R223. -/
def label (l : Label) (s : State) : State := { s with trace := s.trace ++ [l] }

/-- The conditions of rule R220 that have a code. -/
inductive Condition where
  | emptyRead (q : QueueId)
  | modeError
  | rangeError
  | inactive
  | transportError
  | illegalOp
  deriving DecidableEq, Repr

/-- The status codes of rule R220. -/
def Condition.code : Condition → Byte
  | .emptyRead _ => 0x01
  | .modeError => 0x02
  | .rangeError => 0x03
  | .inactive => 0x04
  | .transportError => 0x05
  | .illegalOp => 0x06

/-- The state effect of TransportError (rule R224). -/
def dropConnection (s : State) : State :=
  { s with active := false, probing := false, rx := { s.rx with state := .idle } }

/-- The state effect of a condition (rules R221 to R230, R233): none but TransportError's. -/
def Condition.effect (c : Condition) (s : State) : State :=
  match c with
  | .transportError => dropConnection s
  | _ => s

/-- A condition with data byte `d0` (rules R7, R74, R233): the condition's state effect, and a
response with its code and that byte. -/
def raiseWith (c : Condition) (d0 : Byte) (s : State) : State := respond (c.effect s) ⟨c.code, 0, 0, d0⟩

/-- `raise <Condition>` of rules R7, R233: the condition's state effect, and a response with its
code and data 0. -/
def raise (c : Condition) (s : State) : State := raiseWith c 0 s

/-- The 32-bit response word of rule R74. -/
def Response.word (r : Response) : BitVec 32 := r.status ++ r.d2 ++ r.d1 ++ r.d0

/-! ### The ring-buffer controller (rules R18, R100 to R103) -/

/-- An accepted add: the slot at the derived tail, and the count (rules R18, R100, R101). -/
def Ring.push {α : Type} [DecidableEq α] (z : α) (q : Ring α) (e : α) : Ring α :=
  { q with buf := Memory.write z q.buf ((q.head + q.count) % qcap) e, count := q.count + 1 }

/-- The oldest unread event (rules R102, R103). -/
def Ring.front {α : Type} (z : α) (q : Ring α) : α := Memory.read z q.buf q.head

/-- A read of a non-empty queue moves head and count (rules R102, R103). -/
def Ring.pop {α : Type} (q : Ring α) : Ring α :=
  { q with head := (q.head + 1) % qcap, count := q.count - 1 }

/-- The unread events, oldest first (rule R18). -/
def Ring.contents {α : Type} (z : α) (q : Ring α) : List α :=
  (List.range q.count).map fun k => Memory.read z q.buf ((q.head + k) % qcap)

/-- `QAddG(e)` of rule R100; laws (a), (b), (d) and (f) of rule R111. -/
def qAddG (e : GridEvent) (s : State) : State :=
  if s.gq.count = qcap then label (.capacityDrop .grid) s
  else { s with gq := s.gq.push GridEvent.zero e }

/-- `QAddA(e)` of rule R101; laws (a), (b), (d) and (f) of rule R111. -/
def qAddA (e : ArcEvent) (s : State) : State :=
  if s.aq.count = qcap then label (.capacityDrop .arc) s
  else { s with aq := s.aq.push ArcEvent.zero e }

/-! ### The outbound stream (rules R44, R150) -/

/-- ENV's answer to the next `TxEmit` (rule R44). -/
def nextOutcome (s : State) : TxOutcome :=
  match s.txPlan with
  | o :: _ => o
  | [] => Config.txOutcome s.txSeq

/-- The bytes an emission leaves in `TXS`: all of them, or those before the failure (rule R44). -/
def bytesSent (o : TxOutcome) (bs : List Byte) : List Byte :=
  match o with
  | .ok => bs
  | .fail sent => bs.take sent

/-- `TxEmit(bs)` of rule R44: what it does to the streams, whatever ENV answers. -/
def txEmit (bs : List Byte) (s : State) : State :=
  { s with
    txs := s.txs ++ bytesSent (nextOutcome s) bs
    txPlan := s.txPlan.tail
    txSeq := s.txSeq + 1 }

/-- `TxEmit(bs)` inside an operation: on `ok` the operation goes on, on `fail` it raises
TransportError and is over (rules R44, R224; log entry 21). `sent` says that an earlier emission of
the operation succeeded, which the response to a failure shows in `d0[0]` (rule R74).
-/
def emitThen (sent : Bool) (bs : List Byte) (s : State) (go : State → State) : State :=
  if nextOutcome s = .ok then go (txEmit bs s)
  else raiseWith .transportError (bitByte sent) { txEmit bs s with job := .idle }

/-- `TxEmit(bs)` outside any operation: a failure has TransportError's state effect and there is no
response to give (rules R44, R220). -/
def emitOnly (bs : List Byte) (s : State) : State :=
  if nextOutcome s = .ok then txEmit bs s else dropConnection (txEmit bs s)

/-! ### Profile parameters at work -/

/-- `pack(L)` of rules R5, R78. -/
def packLevels (p : Profile) (levels : List Byte) : List Byte :=
  match p.pack with
  | .identity => levels
  | .custom => (List.range p.packLen).map (Config.packByte levels)

/-- `caps_apply(c0, c1, rows, columns, encoders)` of rules R5, R126. -/
def capsApply (p : Profile) (c0 c1 r c e : Byte) : Byte × Byte × Byte :=
  match p.caps with
  | .identity => (r, c, e)
  | .custom => Config.capsApply c0 c1 r c e

/-- The bytes of the frame `TxFrame(kind, payload)` (rule R150) under the state's profile. -/
def frameBytes (s : State) (k : TxKind) (payload : List Byte) : List Byte :=
  txFrameBytes s.cfg.profile k payload

end Sys2Proof.Machine
end

