-- ==== Sys2Proof/Machine/Flags.lean ====
section
/-! DEFINITION. The derived flags and the read views (rules R14, R22, R27, R28, R29). -/

namespace Sys2Proof.Machine

/-- `Q.empty` of rule R14. -/
def Ring.empty {α : Type} (q : Ring α) : Bool := q.count == 0
/-- `Q.avail` of rule R14. -/
def Ring.avail {α : Type} (q : Ring α) : Bool := q.count != 0
/-- `Q.full` of rule R14. -/
def Ring.full {α : Type} (q : Ring α) : Bool := q.count == qcap

/-- `mode = Grid` of rule R22. -/
def gridMode (s : State) : Bool := s.configured && s.isGrid
/-- `mode = Arc` of rule R22. -/
def arcMode (s : State) : Bool := s.configured && !s.isGrid

/-- `rx_en` of rule R27. -/
def rxEn (s : State) : Bool := s.active || s.probing

/-- `rxBusy` of rule R28. -/
def rxBusy (s : State) : Bool := s.rx.state == .collect

/-- STATUS of rule R28, bit 7 first. -/
def statusView (s : State) : Byte :=
  BitVec.ofBool (rxBusy s) ++ BitVec.ofBool s.arcDirty ++ BitVec.ofBool s.gridDirty
    ++ BitVec.ofBool s.probing ++ BitVec.ofBool s.configured ++ BitVec.ofBool s.isGrid
    ++ BitVec.ofBool s.isMonome ++ BitVec.ofBool s.active

/-- QSTAT of rule R28, bits 7:4 zero. -/
def qstatView (s : State) : Byte :=
  (0 : BitVec 4) ++ BitVec.ofBool s.aq.full ++ BitVec.ofBool s.aq.avail
    ++ BitVec.ofBool s.gq.full ++ BitVec.ofBool s.gq.avail

/-- TILTACT of rule R28, bits 7:4 zero. -/
def tiltActView (s : State) : Byte :=
  (0 : BitVec 4) ++ BitVec.ofBool (tiltRec s 3).active ++ BitVec.ofBool (tiltRec s 2).active
    ++ BitVec.ofBool (tiltRec s 1).active ++ BitVec.ofBool (tiltRec s 0).active

/-- The register of an RDREG number (rule R29), or `none` for every other number. -/
def readReg (s : State) (n : Byte) : Option Byte :=
  match n with
  | 0x00#8 => some (statusView s)
  | 0x01#8 => some (qstatView s)
  | 0x02#8 => some s.rows
  | 0x03#8 => some s.columns
  | 0x04#8 => some s.encoders
  | 0x05#8 => some (s.rotation.setWidth 8)
  | 0x06#8 => some (tiltActView s)
  | n =>
    if 0x10 ≤ n.toNat ∧ n.toNat < 0x10 + s.cfg.profile.idLen then
      some (Memory.read 0 s.deviceId (n.toNat - 0x10))
    else none

/-- `InfoSuccess()` of rule R123. -/
def infoSuccess (s : State) : State :=
  { s with isMonome := true, active := true, probing := false }

/-- `DimsOK(r, c, e)` of rule R126. -/
def dimsOk (s : State) (r c e : Byte) : Bool :=
  (r == 0 || c == 0 || decide (r.toNat * c.toNat ≤ ledn))
    && (!gridMode s || (decide (1 ≤ r.toNat) && decide (1 ≤ c.toNat)))
    && (!arcMode s || (decide (1 ≤ e.toNat) && decide (e.toNat ≤ arcRings)))

end Sys2Proof.Machine
end

