-- ==== Sys2Proof/Machine/Operands.lean ====
section
/-! DEFINITION. The rotation mapping and the LedFrame addresses: how coordinates become cells (rules
R54, R55, R58 to R60), and the payloads of the map frames (rules R78, R159, R160). -/

namespace Sys2Proof.Machine

/-- `ROT_DIR` of rule R59: with `ccw` the rows for 1 and 3 are exchanged, in both mappings (DEDUCED,
log entry 20). -/
def turn (d : RotDir) (r : BitVec 2) : BitVec 2 :=
  match d with
  | .cw => r
  | .ccw => -r

/-- `(LW, LH)` of rule R58. -/
def logicalRect (r : BitVec 2) (w h : Nat) : Nat × Nat :=
  match r with
  | 0#2 => (w, h)
  | 1#2 => (h, w)
  | 2#2 => (w, h)
  | 3#2 => (h, w)

/-- `rot_fwd(r, W, H, x, y)` of rule R59: logical to physical. -/
def rotFwd (d : RotDir) (r : BitVec 2) (w h x y : Nat) : Nat × Nat :=
  match turn d r with
  | 0#2 => (x, y)
  | 1#2 => (w - 1 - y, x)
  | 2#2 => (w - 1 - x, h - 1 - y)
  | 3#2 => (y, h - 1 - x)

/-- `rot_inv(r, W, H, xp, yp)` of rule R60: physical to logical. -/
def rotInv (d : RotDir) (r : BitVec 2) (w h xp yp : Nat) : Nat × Nat :=
  match turn d r with
  | 0#2 => (xp, yp)
  | 1#2 => (yp, w - 1 - xp)
  | 2#2 => (w - 1 - xp, h - 1 - yp)
  | 3#2 => (h - 1 - yp, xp)

/-- `led_index_grid(xp, yp)` of rule R54. -/
def ledIndexGrid (w xp yp : Nat) : Nat := yp * w + xp

/-- `led_index_arc(n, l)` of rule R55. -/
def ledIndexArc (n l : Nat) : Nat := ringLeds * n + l

/-- The LedFrame cell SETGLED and CLRGLED write for logical `(x, y)` (rules R152, R153). -/
def gridCell (s : State) (x y : Byte) : Nat :=
  let (xp, yp) :=
    rotFwd s.cfg.rotDir s.rotation s.columns.toNat s.rows.toNat x.toNat y.toNat
  ledIndexGrid s.columns.toNat xp yp

/-- Logical `(x, y)` lies in the logical rectangle (rules R58, R152). -/
def inLogicalRect (s : State) (x y : Byte) : Bool :=
  let (lw, lh) := logicalRect s.rotation s.columns.toNat s.rows.toNat
  decide (x.toNat < lw) && decide (y.toNat < lh)

/-- `LED` as rule R41 gives it: 256 cells, zero value 0. -/
def ledRead (s : State) (i : Nat) : Byte := Memory.read 0 s.led i

/-- A LedFrame cell takes a level. -/
def ledWrite (s : State) (i : Nat) (v : Byte) : State :=
  { s with led := Memory.write 0 s.led i v }

/-- `cell(xp, yp)` of rule R159: 0 outside the grid. -/
def quadCell (s : State) (w h xp yp : Nat) : Byte :=
  if xp < w ∧ yp < h then ledRead s (ledIndexGrid w xp yp) else 0

/-- `QX` of rule R159, and `QY` of the height. -/
def quads (d : Nat) : Nat := (d + 7) / 8

/-- The 64 levels of quad number `k`, row-major in the quad (rule R159). -/
def quadLevels (s : State) (w h k : Nat) : List Byte :=
  (List.range 64).map fun i =>
    quadCell s w h (8 * (k % quads w) + i % 8) (8 * (k / quads w) + i / 8)

/-- The payload of the T_GMAP frame of quad number `k`, row-major over quads (rules R78, R159). -/
def gmapPayload (s : State) (w h k : Nat) : List Byte :=
  BitVec.ofNat 8 (8 * (k % quads w)) :: BitVec.ofNat 8 (8 * (k / quads w))
    :: packLevels s.cfg.profile (quadLevels s w h k)

/-- The payload of the T_AMAP frame of a ring (rules R78, R160). -/
def amapPayload (s : State) (ring : Nat) : List Byte :=
  BitVec.ofNat 8 ring
    :: packLevels s.cfg.profile (Memory.readList 0 s.led (ledIndexArc ring 0) ringLeds)

/-- The payload of T_SIZE in the state's mode (rules R78, R162). -/
def sizePayload (s : State) : List Byte :=
  if gridMode s then [s.columns, s.rows] else [s.encoders, 0]

end Sys2Proof.Machine
end

