-- ==== Sys2Proof/Machine/CodecDecode.lean ====
section
/-! DEFINITION. The decode path: what a complete frame does, the framer, POLL and RXBYTE (rules R120
to R131). -/

namespace Sys2Proof.Machine

/-- A frame that fails its acceptance test (rules R123, R222). -/
def malformed (s : State) : State := label (.protoMalformed s.rx.cmd) s

/-- `Dispatch(KEY(v), [xp, yp])`, rule R124. -/
def keyFrame (v : Bool) (xp yp : Byte) (s : State) : State :=
  if gridMode s ∧ xp.toNat < s.columns.toNat ∧ yp.toNat < s.rows.toNat then
    let (x, y) :=
      rotInv s.cfg.rotDir s.rotation s.columns.toNat s.rows.toNat xp.toNat yp.toNat
    qAddG ⟨BitVec.ofNat 8 x, BitVec.ofNat 8 y, v⟩ s
  else malformed s

/-- `Dispatch(ENC, [n, d])`, rule R125. -/
def encFrame (n d : Byte) (s : State) : State :=
  if arcMode s ∧ n.toNat < s.encoders.toNat then qAddA ⟨n, d⟩ s else malformed s

/-- `Dispatch(INFO_CAPS, [c0, c1])`, rule R126. -/
def infoCapsFrame (c0 c1 : Byte) (s : State) : State :=
  let (r, c, e) := capsApply s.cfg.profile c0 c1 s.rows s.columns s.encoders
  if dimsOk s r c e then infoSuccess { s with rows := r, columns := c, encoders := e }
  else malformed s

/-- `Dispatch(INFO_ID, p)`, rule R127. -/
def infoIdFrame (id : List Byte) (s : State) : Result :=
  if id.length = s.cfg.profile.idLen then
    .next (infoSuccess { s with deviceId := Memory.writeList 0 s.deviceId 0 id })
  else .fault .payloadShape

/-- `Dispatch(SIZE, [s0, s1])`, rule R128. -/
def sizeFrame (s0 s1 : Byte) (s : State) : State :=
  if arcMode s then
    if 1 ≤ s0.toNat ∧ s0.toNat ≤ arcRings then { s with encoders := s0 } else malformed s
  else if 1 ≤ s0.toNat ∧ 1 ≤ s1.toNat ∧ s0.toNat * s1.toNat ≤ ledn then
    { s with columns := s0, rows := s1 }
  else malformed s

/-- `Dispatch(ROT, [r])`, rule R129. -/
def rotFrame (r : Byte) (s : State) : State :=
  if r.toNat ≤ 3 then { s with rotation := r.setWidth 2 } else malformed s

/-- `Dispatch(kind, p)`, rule R123; a skipped frame does nothing (rule R130). -/
def dispatchFrame (k : RxKind) (payload : List Byte) (s : State) : Result :=
  match k, payload with
  | .key v, [xp, yp] => .next (keyFrame v xp yp s)
  | .enc, [n, d] => .next (encFrame n d s)
  | .infoCaps, [c0, c1] => .next (infoCapsFrame c0 c1 s)
  | .infoId, id => infoIdFrame id s
  | .size, [s0, s1] => .next (sizeFrame s0 s1 s)
  | .rot, [r] => .next (rotFrame r s)
  | .skip _, _ => .next s
  | _, _ => .fault .payloadShape

/-- A payload byte is stored: `FB[rx.cnt] <- b`, `rx.cnt <- rx.cnt + 1` (rule R122). -/
def storePayload (b : Byte) (s : State) : State :=
  { s with rx := { s.rx with buf := Memory.write 0 s.rx.buf s.rx.cnt b, cnt := s.rx.cnt + 1 } }

/-- `rx.state <- IDLE` of rule R122. -/
def framerIdle (s : State) : State := { s with rx := { s.rx with state := .idle } }

/-- A byte in `IDLE` (rules R122, R131). -/
def rxStart (b : Byte) (s : State) : Result :=
  match s.cfg.profile.rxEntry b with
  | none => .next (label (.protoUnknown b) s)
  | some e =>
    if e.plen = 0 then dispatchFrame e.kind [] s
    else .next { s with rx := { s.rx with state := .collect, cmd := b, need := e.plen, cnt := 0 } }

/-- The collected frame is complete (rule R122). -/
def rxComplete (s : State) : Result :=
  match s.cfg.profile.rxEntry s.rx.cmd with
  | none => .fault (.framerCommand s.rx.cmd)
  | some e =>
    andThen (dispatchFrame e.kind (Memory.readList 0 s.rx.buf 0 s.rx.need) s)
      fun t => .next (framerIdle t)

/-- A byte in `COLLECT` (rule R122); the buffer has `MAXPLEN` cells (rule R13). -/
def rxCollect (b : Byte) (s : State) : Result :=
  if s.rx.cnt < s.cfg.profile.maxPlen then
    let t := storePayload b s
    if t.rx.cnt = t.rx.need then rxComplete t else .next t
  else .fault (.noCell .fb s.rx.cnt)

/-- `RxStep(b)`, rule R122. -/
def rxStep (b : Byte) (s : State) : Result :=
  match s.rx.state with
  | .idle => rxStart b s
  | .collect => rxCollect b s

/-- RXBYTE, rule R120. -/
def execRxbyte (s : State) : Result :=
  if !rxEn s then .next (raise .inactive s)
  else
    match s.rxs with
    | [] => .next (done s 0 0 0)
    | b :: rest => andThen (rxStep b { s with rxs := rest }) fun t => .next (done t 0 0 1)

/-- POLL, rule R121: the gate and the snapshot, its first primitive step. `pollTurn` is the loop. -/
def execPoll (s : State) : Result :=
  if !rxEn s then .next (raise .inactive s) else .next { s with job := .poll s.rxs.length 0 }

/-- One turn of POLL's loop (rule R121): the loop test and, where it holds, one `RxStep(RxTake())`;
where it fails, the response (log entry 7). -/
def pollTurn (k n : Nat) (s : State) : Result :=
  match s.rxs with
  | [] => .next (done { s with job := .idle } 0 0 (bitByte (n != 0)))
  | b :: rest =>
    if n < k ∧ rxEn s then
      andThen (rxStep b { s with rxs := rest }) fun t => .next { t with job := .poll k (n + 1) }
    else .next (done { s with job := .idle } 0 0 (bitByte (n != 0)))

end Sys2Proof.Machine
end

