-- ==== Sys2Proof/Machine/CodecEncode.lean ====
section
/-! DEFINITION. The encode path: the LedFrame mutators, the refresh loops and the explicit senders
(rules R150 to R163). -/

namespace Sys2Proof.Machine

/-! ### LedFrame mutators: mode first, then range (rule R151) -/

/-- A grid cell takes a level: SETGLED and CLRGLED (rules R152, R153). -/
def setGridLed (x y level : Byte) (s : State) : Result :=
  if !gridMode s then .next (raise .modeError s)
  else if !inLogicalRect s x y then .next (raise .rangeError s)
  else if gridCell s x y < ledn then
    .next (done { ledWrite s (gridCell s x y) level with gridDirty := true } 0 0 0)
  else .fault (.noCell .led (gridCell s x y))

/-- A ring cell takes a level: SETALED and CLRALED (rules R154, R155). -/
def setArcLed (ring led level : Byte) (s : State) : Result :=
  if !arcMode s then .next (raise .modeError s)
  else if !(decide (ring.toNat < s.encoders.toNat) && decide (led.toNat < ringLeds)) then
    .next (raise .rangeError s)
  else if ledIndexArc ring.toNat led.toNat < ledn then
    .next (done
      { ledWrite s (ledIndexArc ring.toNat led.toNat) level with arcDirty := true } 0 0 0)
  else .fault (.noCell .led (ledIndexArc ring.toNat led.toNat))

/-- All 256 cells take a level and the mode's dirty flag is set: SETALL and CLRALL (rules R156,
R157). -/
def setAllLeds (level : Byte) (s : State) : Result :=
  if !s.configured then .next (raise .modeError s)
  else
    .next (done
      { s with
        led := Memory.fill 0 s.led 0 ledn level
        gridDirty := s.gridDirty || s.isGrid
        arcDirty := s.arcDirty || !s.isGrid } 0 0 0)

/-- SETGLED, rule R152. -/
def execSetgled (x y level : Byte) (s : State) : Result := setGridLed x y level s

/-- CLRGLED, rule R153. -/
def execClrgled (x y : Byte) (s : State) : Result := setGridLed x y 0 s

/-- SETALED, rule R154. -/
def execSetaled (ring led level : Byte) (s : State) : Result := setArcLed ring led level s

/-- CLRALED, rule R155. -/
def execClraled (ring led : Byte) (s : State) : Result := setArcLed ring led 0 s

/-- SETALL, rule R156. -/
def execSetall (level : Byte) (s : State) : Result := setAllLeds level s

/-- CLRALL, rule R157. -/
def execClrall (s : State) : Result := setAllLeds 0 s

/-- CLRRING, rule R158. -/
def execClrring (ring : Byte) (s : State) : Result :=
  if !arcMode s then .next (raise .modeError s)
  else if !decide (ring.toNat < s.encoders.toNat) then .next (raise .rangeError s)
  else if ledIndexArc ring.toNat ringLeds ≤ ledn then
    .next (done
      { s with
        led := Memory.fill 0 s.led (ledIndexArc ring.toNat 0) ringLeds 0
        arcDirty := true } 0 0 0)
  else .fault (.noCell .led (ledIndexArc ring.toNat 0))

/-! ### Refresh: one primitive step per frame (rules R52, R159 to R161; log entries 7, 17)

A loop's `sent` says that a frame of the same operation has gone out before. -/

/-- The arc loop is over: the flag is cleared in the step of its last frame (rule R160). -/
def arcDone (s : State) : State := done { s with arcDirty := false, job := .idle } 0 0 1

/-- One turn of the arc loop (rule R160): the frame of a ring and the updates placed with it.
`active` is not tested again, so after a TransportDown between two frames the loop goes on and a
failing frame raises TransportError with `active` 0 already; rule R234's parenthesis names GETINFO
and TransportDown only as sources of that, and rule R160's loop is followed (DEDUCED, log entry 17).
-/
def arcTurn (sent : Bool) (rings ring : Nat) (s : State) : Result :=
  if ring < rings then
    if ledIndexArc ring ringLeds ≤ ledn then
      .next (emitThen sent (frameBytes s .amap (amapPayload s ring)) s fun t =>
        if ring + 1 < rings then { t with job := .arcFrames rings (ring + 1) } else arcDone t)
    else .fault (.noCell .led (ledIndexArc ring 0))
  else .next (arcDone s)

/-- The grid loop is over: the flag is cleared in the step of its last frame (rule R159), and
REFRESH goes on with the arc part if that flag is set (rule R161). -/
def gridDone (thenArc : Bool) (s : State) : State :=
  if thenArc && s.arcDirty then
    { s with gridDirty := false, job := .arcFrames s.encoders.toNat 0 }
  else done { s with gridDirty := false, job := .idle } 0 0 1

/-- One turn of the grid loop (rule R159): the frame of quad number `quad` and the updates placed
with it. The image of a `w` by `h` grid must fit LedFrame (rule R54). As in `arcTurn`, `active` is
not tested again, against rule R234's parenthesis (DEDUCED, log entry 17). -/
def gridTurn (sent : Bool) (w h quad : Nat) (thenArc : Bool) (s : State) : Result :=
  if w * h ≤ ledn then
    if quad < quads w * quads h then
      .next (emitThen sent (frameBytes s .gmap (gmapPayload s w h quad)) s fun t =>
        if quad + 1 < quads w * quads h then
          { t with job := .gridFrames w h (quad + 1) thenArc }
        else gridDone thenArc t)
    else .next (gridDone thenArc s)
  else .fault (.noCell .led (w * h - 1))

/-- REFRESHG, rule R159: the gates and the first frame, its first primitive step. -/
def execRefreshg (s : State) : Result :=
  if !s.active then .next (raise .inactive s)
  else if !s.gridDirty then .next (done s 0 0 0)
  else gridTurn false s.columns.toNat s.rows.toNat 0 false s

/-- REFRESHA, rule R160: the gates and the first frame. -/
def execRefresha (s : State) : Result :=
  if !s.active then .next (raise .inactive s)
  else if !s.arcDirty then .next (done s 0 0 0)
  else arcTurn false s.encoders.toNat 0 s

/-- REFRESH, rule R161: the gates and the first frame. -/
def execRefresh (s : State) : Result :=
  if !s.active then .next (raise .inactive s)
  else if !s.gridDirty && !s.arcDirty then .next (done s 0 0 0)
  else if s.gridDirty then gridTurn false s.columns.toNat s.rows.toNat 0 true s
  else arcTurn false s.encoders.toNat 0 s

/-! ### Explicit senders -/

/-- SENDSIZE, rule R162. -/
def execSendsize (s : State) : Result :=
  if !s.configured then .next (raise .modeError s)
  else if !s.active then .next (raise .inactive s)
  else .next (emitThen false (frameBytes s .size (sizePayload s)) s fun t => done t 0 0 1)

/-- SENDROT, rule R163. -/
def execSendrot (s : State) : Result :=
  if !s.active then .next (raise .inactive s)
  else .next (emitThen false (frameBytes s .rot [s.rotation.setWidth 8]) s fun t => done t 0 0 1)

end Sys2Proof.Machine
end

