-- ==== Sys2Proof/Machine/Controller.lean ====
section
/-! DEFINITION. The controller operations (rules R191 to R196). -/

namespace Sys2Proof.Machine

/-- Every piece of state of the block at its reset value (rules R36, R191); the transport, the agents,
the responses, the trace and the parameters are not state of the block (rule R35; log entry 15). -/
def blockReset (s : State) : State :=
  { State.reset with
    port := s.port
    hostResp := s.hostResp
    prodResp := s.prodResp
    rxs := s.rxs
    txs := s.txs
    txPlan := s.txPlan
    txSeq := s.txSeq
    schedule := s.schedule
    hostProg := s.hostProg
    prodProg := s.prodProg
    trace := s.trace
    cfg := s.cfg }

/-- INIT, rule R191. -/
def execInit (s : State) : Result := .next (done (blockReset s) 0 0 0)

/-- GETINFO, rule R192: the one transmitting operation that does not test `active`. -/
def execGetinfo (s : State) : Result :=
  .next (emitThen false s.cfg.profile.querySeq s fun t => done { t with probing := true } 0 0 1)

/-- SETUPG, rule R193. -/
def execSetupg (rows columns : Byte) (s : State) : Result :=
  if arcMode s then .next (raise .modeError s)
  else if 1 ≤ rows.toNat ∧ 1 ≤ columns.toNat ∧ rows.toNat * columns.toNat ≤ ledn then
    .next (done
      { s with
        rows := rows
        columns := columns
        configured := true
        isGrid := true
        active := true } 0 0 0)
  else .next (raise .rangeError s)

/-- SETUPA, rule R194. -/
def execSetupa (encoders : Byte) (s : State) : Result :=
  if gridMode s then .next (raise .modeError s)
  else if 1 ≤ encoders.toNat ∧ encoders.toNat ≤ arcRings then
    .next (done
      { s with
        encoders := encoders
        configured := true
        isGrid := false
        active := true } 0 0 0)
  else .next (raise .rangeError s)

/-- SETROT, rule R195. -/
def execSetrot (r : Byte) (s : State) : Result :=
  if 3 < r.toNat then .next (raise .rangeError s)
  else .next (done { s with rotation := r.setWidth 2 } 0 0 0)

/-- RDREG, rule R196. -/
def execRdreg (n : Byte) (s : State) : Result :=
  match readReg s n with
  | some v => .next (done s 0 0 v)
  | none => .next (raise .rangeError s)

end Sys2Proof.Machine
end

