-- ==== Sys2Proof/Machine/EventQueue.lean ====
section
/-! DEFINITION. The event queue operations (rules R104 to R109). -/

namespace Sys2Proof.Machine

/-- ADDG, rule R104. -/
def execAddg (x y : Byte) (pressed : Bool) (s : State) : Result :=
  .next (done (qAddG ⟨x, y, pressed⟩ s) 0 0 0)

/-- ADDA, rule R105; `delta` is stored as its two's-complement byte. -/
def execAdda (index delta : Byte) (s : State) : Result :=
  .next (done (qAddA ⟨index, delta⟩ s) 0 0 0)

/-- GAVAIL, rule R106; law (c) of rule R111. -/
def execGavail (s : State) : Result := .next (done s 0 0 (bitByte s.gq.avail))

/-- AAVAIL, rule R107; law (c) of rule R111. -/
def execAavail (s : State) : Result := .next (done s 0 0 (bitByte s.aq.avail))

/-- RDG, rules R102, R108, R226; laws (a), (e) and (f) of rule R111. -/
def execRdg (s : State) : Result :=
  if s.gq.empty then .next (raise (.emptyRead .grid) s)
  else if s.gq.head < qcap then
    let e := s.gq.front GridEvent.zero
    .next (done { s with gq := s.gq.pop } e.x e.y (bitByte e.pressed))
  else .fault (.noCell .gq s.gq.head)

/-- RDA, rules R103, R109, R226; laws (a), (e) and (f) of rule R111. -/
def execRda (s : State) : Result :=
  if s.aq.empty then .next (raise (.emptyRead .arc) s)
  else if s.aq.head < qcap then
    let e := s.aq.front ArcEvent.zero
    .next (done { s with aq := s.aq.pop } e.index e.delta 0)
  else .fault (.noCell .aq s.aq.head)

end Sys2Proof.Machine
end

