-- ==== Sys2Proof/Machine/Tilt.lean ====
section
/-! DEFINITION. The tilt tracker operations (rules R210, R211). -/

namespace Sys2Proof.Machine

/-- SETTILT, rule R210. -/
def execSettilt (sensor : Byte) (active : Bool) (s : State) : Result :=
  if ntilt ≤ sensor.toNat then .next (raise .rangeError s)
  else
    .next (done
      (setTiltRec s sensor.toNat { tiltRec s sensor.toNat with active := active }) 0 0 0)

/-- The sample equals the last one stored (rules R31, R211). -/
def tiltSuppressed (r : TiltRec) (x y z : Half) : Bool :=
  r.reported && (r.lastX == x && r.lastY == y && r.lastZ == z)

/-- A sample enters the cache (rule R211). -/
def storeTilt (s : State) (sensor : Nat) (x y z : Half) : State :=
  setTiltRec s sensor
    { tiltRec s sensor with reported := true, lastX := x, lastY := y, lastZ := z }

/-- SENDTILT, rule R211: the cache is written before the frame is emitted (law R212 (a): log entry
18). -/
def execSendtilt (sensor : Byte) (x y z : Half) (s : State) : Result :=
  if ntilt ≤ sensor.toNat then .next (raise .rangeError s)
  else if !s.active then .next (raise .inactive s)
  else if !(tiltRec s sensor.toNat).active then .next (done s 0 0 0)
  else if tiltSuppressed (tiltRec s sensor.toNat) x y z then .next (done s 0 0 0)
  else
    .next (emitThen false (frameBytes s .tilt (tiltPayload s.cfg.profile sensor x y z))
      (storeTilt s sensor.toNat x y z) fun t => done t 0 0 1)

end Sys2Proof.Machine
end

