-- ==== Sys2Proof/Machine/Wire.lean ====
section
/-! DEFINITION. The frames of the opcode table as instructions. A received frame's meaning is what
`Dispatch` does when its last byte has arrived (rules R123 to R129). A sent frame's meaning is its one
emission, `TxFrame(kind, payload)`, whose failure has TransportError's state effect (rules R44, R150,
R224). DESIGN CHOICE, log entry 9. -/

namespace Sys2Proof.Machine

/-- RX_INFO_CAPS, rule R126. -/
def execRxInfoCaps (c0 c1 : Byte) (s : State) : Result := .next (infoCapsFrame c0 c1 s)

/-- RX_INFO_ID, rule R127. -/
def execRxInfoId (id : List Byte) (s : State) : Result := infoIdFrame id s

/-- RX_SIZE, rule R128. -/
def execRxSize (s0 s1 : Byte) (s : State) : Result := .next (sizeFrame s0 s1 s)

/-- RX_ROT, rule R129. -/
def execRxRot (r : Byte) (s : State) : Result := .next (rotFrame r s)

/-- RX_KEYUP, rule R124 with `v = 0`. -/
def execRxKeyup (xp yp : Byte) (s : State) : Result := .next (keyFrame false xp yp s)

/-- RX_KEYDN, rule R124 with `v = 1`. -/
def execRxKeydn (xp yp : Byte) (s : State) : Result := .next (keyFrame true xp yp s)

/-- RX_ENC, rule R125. -/
def execRxEnc (n d : Byte) (s : State) : Result := .next (encFrame n d s)

/-- TX_SIZE, rules R78, R162. -/
def execTxSize (p0 p1 : Byte) (s : State) : Result :=
  .next (emitOnly (frameBytes s .size [p0, p1]) s)

/-- TX_ROT, rules R78, R163. -/
def execTxRot (r : Byte) (s : State) : Result := .next (emitOnly (frameBytes s .rot [r]) s)

/-- TX_GMAP, rules R78, R159. -/
def execTxGmap (xo yo : Byte) (levels : List Byte) (s : State) : Result :=
  .next (emitOnly (frameBytes s .gmap (xo :: yo :: levels)) s)

/-- TX_AMAP, rules R78, R160. -/
def execTxAmap (ring : Byte) (levels : List Byte) (s : State) : Result :=
  .next (emitOnly (frameBytes s .amap (ring :: levels)) s)

/-- TX_TILT, rules R78, R211. -/
def execTxTilt (sensor : Byte) (x y z : Half) (s : State) : Result :=
  .next (emitOnly (frameBytes s .tilt (tiltPayload s.cfg.profile sensor x y z)) s)

/-- TX_QUERY, rules R78, R192: the bytes of `QUERY_SEQ` as they stand. -/
def execTxQuery (s : State) : Result := .next (emitOnly s.cfg.profile.querySeq s)

end Sys2Proof.Machine
end

