-- ==== Sys2Proof/Machine/Dispatch.lean ====
section
/-! DEFINITION. The meaning of every instruction: one arm per row of the opcode table. -/

namespace Sys2Proof.Machine

def exec (i : Instr) (s : State) : Host.Outcome State Fault Refusal :=
  match i with
  | .addg x y pressed => Sys2Proof.Machine.execAddg x y pressed s
  | .adda index delta => Sys2Proof.Machine.execAdda index delta s
  | .gavail => Sys2Proof.Machine.execGavail s
  | .aavail => Sys2Proof.Machine.execAavail s
  | .rdg => Sys2Proof.Machine.execRdg s
  | .rda => Sys2Proof.Machine.execRda s
  | .poll => Sys2Proof.Machine.execPoll s
  | .rxbyte => Sys2Proof.Machine.execRxbyte s
  | .setgled x y level => Sys2Proof.Machine.execSetgled x y level s
  | .clrgled x y => Sys2Proof.Machine.execClrgled x y s
  | .setaled ring led level => Sys2Proof.Machine.execSetaled ring led level s
  | .clraled ring led => Sys2Proof.Machine.execClraled ring led s
  | .setall level => Sys2Proof.Machine.execSetall level s
  | .clrall => Sys2Proof.Machine.execClrall s
  | .clrring ring => Sys2Proof.Machine.execClrring ring s
  | .refreshg => Sys2Proof.Machine.execRefreshg s
  | .refresha => Sys2Proof.Machine.execRefresha s
  | .refresh => Sys2Proof.Machine.execRefresh s
  | .sendsize => Sys2Proof.Machine.execSendsize s
  | .sendrot => Sys2Proof.Machine.execSendrot s
  | .init => Sys2Proof.Machine.execInit s
  | .getinfo => Sys2Proof.Machine.execGetinfo s
  | .setupg rows columns => Sys2Proof.Machine.execSetupg rows columns s
  | .setupa encoders => Sys2Proof.Machine.execSetupa encoders s
  | .setrot r => Sys2Proof.Machine.execSetrot r s
  | .rdreg n => Sys2Proof.Machine.execRdreg n s
  | .settilt sensor active => Sys2Proof.Machine.execSettilt sensor active s
  | .sendtilt sensor x y z => Sys2Proof.Machine.execSendtilt sensor x y z s
  | .rxInfoCaps c0 c1 => Sys2Proof.Machine.execRxInfoCaps c0 c1 s
  | .rxInfoId id => Sys2Proof.Machine.execRxInfoId id s
  | .rxSize s0 s1 => Sys2Proof.Machine.execRxSize s0 s1 s
  | .rxRot r => Sys2Proof.Machine.execRxRot r s
  | .rxKeyup xp yp => Sys2Proof.Machine.execRxKeyup xp yp s
  | .rxKeydn xp yp => Sys2Proof.Machine.execRxKeydn xp yp s
  | .rxEnc n d => Sys2Proof.Machine.execRxEnc n d s
  | .txSize p0 p1 => Sys2Proof.Machine.execTxSize p0 p1 s
  | .txRot r => Sys2Proof.Machine.execTxRot r s
  | .txGmap xo yo levels => Sys2Proof.Machine.execTxGmap xo yo levels s
  | .txAmap ring levels => Sys2Proof.Machine.execTxAmap ring levels s
  | .txTilt sensor x y z => Sys2Proof.Machine.execTxTilt sensor x y z s
  | .txQuery => Sys2Proof.Machine.execTxQuery s

end Sys2Proof.Machine
end

