-- ==== Sys2Proof/Machine/Agents.lean ====
section
/-! DEFINITION. The three agents' turns (rules R43, R45, R51, R52, R63), and where an opcode-table row
is placed so that the next turn runs it. -/

namespace Sys2Proof.Machine

/-- The `port` column of rule R72, with `AUTONOMOUS_RX` (rules R120, R236). -/
def portAllows (cfg : Params) (a : Agent) (i : Instr) : Bool :=
  match a, i with
  | .host, .rxbyte => false
  | .host, _ => true
  | .prod, .addg _ _ _ => true
  | .prod, .adda _ _ => true
  | .prod, .rxbyte => cfg.autonomousRx
  | .prod, _ => false

/-- An agent issues a command word: an illegal `op` raises IllegalOp (rules R73, R229); an operation
on a port that does not allow it is outside the model (rule R73); else the operation runs. -/
def issue (a : Agent) (cw : Command) (s : State) : Result :=
  match decodeCommand cw with
  | .error _ => .next (raise .illegalOp s)
  | .ok i => if portAllows s.cfg a i then exec i s else .refused (.portNotAllowed a (opField cw))

/-- HOST goes on with the compound operation it has in progress (rules R8, R52). A refresh is in
progress only once a frame of it has gone out (rules R159, R160), which `sent` tells the turn. -/
def jobTurn (s : State) : Result :=
  match s.job with
  | .idle => .next s
  | .poll k n => pollTurn k n s
  | .gridFrames w h quad thenArc => gridTurn true w h quad thenArc s
  | .arcFrames rings ring => arcTurn true rings ring s

/-- HOST's turn, once it is HOST that is served: it finishes an operation before it issues the next
(rules R51, R52); with nothing to issue it takes no step (rule R250). -/
def hostServed (s : State) : Result :=
  match s.job with
  | .idle =>
    match s.hostProg with
    | [] => .next s
    | cw :: rest => issue .host cw { s with hostProg := rest }
  | _ => jobTurn s

/-- HOST's turn. -/
def hostTurn (s : State) : Result := hostServed { s with port := .host }

/-- PROD's turn, once it is PROD that is served; with nothing to issue it takes no step. -/
def prodServed (s : State) : Result :=
  match s.prodProg with
  | [] => .next s
  | cw :: rest => issue .prod cw { s with prodProg := rest }

/-- PROD's turn. -/
def prodTurn (s : State) : Result := prodServed { s with port := .prod }

/-- `ByteArrive(b)` of rule R43. -/
def byteArrive (b : Byte) (s : State) : State := { s with rxs := s.rxs ++ [b] }

/-- The next primitive step of the total order of rule R63: the turn at the head of the schedule, or
HOST's where the schedule is empty. -/
def takeTurn (s : State) : Result :=
  match s.schedule with
  | [] => hostTurn s
  | .host :: rest => hostTurn { s with schedule := rest }
  | .prod :: rest => prodTurn { s with schedule := rest }
  | .byteArrive b :: rest => .next (byteArrive b { s with schedule := rest })
  | .transportDown :: rest => .next (dropConnection { s with schedule := rest })

/-- One step; a profile that is not well-formed is refused (item U10). -/
def stepOnce (s : State) : Result :=
  if s.cfg.profile.wf then takeTurn s else .refused .profileNotWellFormed

/-! ### Placing a row of the opcode table (DESIGN CHOICE, log entry 14) -/

/-- A command word stands where HOST issues its next operation, and HOST is next. -/
def placeHost (cw : Command) (s : State) : State :=
  { s with job := .idle, hostProg := cw :: s.hostProg, schedule := .host :: s.schedule }

/-- A command word stands where PROD issues its next operation, and PROD is next. -/
def placeProd (cw : Command) (s : State) : State :=
  { s with prodProg := cw :: s.prodProg, schedule := .prod :: s.schedule }

/-- A received frame, all but its last byte collected; HOST is in a POLL and takes the last byte
next (rules R121, R122). The receiver is enabled. -/
def placeRx (cmd : Byte) (payload : List Byte) (s : State) : State :=
  { s with
    rx :=
      { state := .collect, cmd := cmd, need := payload.length, cnt := payload.length - 1
        buf := Memory.writeList 0 [] 0 payload.dropLast }
    rxs := payload.drop (payload.length - 1) ++ s.rxs
    probing := s.probing || !s.active
    job := .poll 1 0
    schedule := .host :: s.schedule }

/-- A sent frame: the state in which the next turn is the one that emits exactly this frame, by the
operation that emits its kind (column "emitted by" of rule R78). A frame no operation can emit
leaves the state as it is. -/
def placeTx (i : Instr) (s : State) : State :=
  match i with
  | .txSize p0 p1 =>
    let t := placeHost (formatN 0x3A) { s with active := true, configured := true }
    if p1 = 0 then { t with isGrid := false, encoders := p0 }
    else { t with isGrid := true, columns := p0, rows := p1 }
  | .txRot r => placeHost (formatN 0x3B) { s with active := true, rotation := r.setWidth 2 }
  | .txGmap xo yo levels =>
    let w := xo.toNat + 8
    let h := yo.toNat + 8
    if w * h ≤ ledn then
      { s with
        led :=
          (List.range 64).foldl
            (fun m k =>
              Memory.write 0 m (ledIndexGrid w (xo.toNat + k % 8) (yo.toNat + k / 8))
                (levels.getD k 0)) s.led
        job := .gridFrames w h (quads w * quads h - 1) false
        schedule := .host :: s.schedule }
    else s
  | .txAmap ring levels =>
    { s with
      led := Memory.writeList 0 s.led (ledIndexArc ring.toNat 0) levels
      job := .arcFrames (ring.toNat + 1) ring.toNat
      schedule := .host :: s.schedule }
  | .txTilt sensor x y z =>
    placeHost (formatT 0x51 sensor x y z)
      (setTiltRec { s with active := true } sensor.toNat
        { tiltRec s sensor.toNat with active := true, reported := false })
  | .txQuery => placeHost (formatN 0x41) s
  | _ => s

/-- Where an opcode-table row stands so that the next step runs it. A word no row has is a command
word for HOST. -/
def placeRow (s : State) (nbits w : Nat) : State :=
  match decodeTableWord nbits w with
  | none => placeHost (BitVec.ofNat 64 w) s
  | some i =>
    match encode refProfile i with
    | some (.command cw) =>
      let used := if nbits = 64 then BitVec.ofNat 64 w else cw
      if i = .rxbyte then placeProd used s else placeHost used s
    | some (.rxFrame (cmd :: payload)) => placeRx cmd payload s
    | some (.rxFrame []) => s
    | some (.txFrame _) => placeTx i s
    | none => s

end Sys2Proof.Machine
end

