-- ==== Sys2Proof/Machine/Step.lean ====
section
/-! DEFINITION. One step of the machine: one primitive step of one agent (rules R8, R52, R63). -/

namespace Sys2Proof.Machine

/-- One primitive step. -/
def step (s : State) : Host.Outcome State Fault Refusal := stepOnce s

/-- The state in which the next step runs the instruction of an opcode-table row. -/
def State.withFetchWord (s : State) (nbits w : Nat) : State := placeRow s nbits w

end Sys2Proof.Machine
end

