-- ==== Sys2Proof/Safety.lean ====
section
/-! DEFINITION. The invariant of the reachable states, and what a safe step is. -/

namespace Sys2Proof.Machine

/-- Every address space is in its canonical form, with the cells of rule R40 and no other. -/
def State.memoryOk (s : State) : Prop :=
  Memory.wf GridEvent.zero qcap s.gq.buf = true
    ∧ Memory.wf ArcEvent.zero qcap s.aq.buf = true
    ∧ Memory.wf 0 ledn s.led = true
    ∧ Memory.wf 0 s.cfg.profile.maxPlen s.rx.buf = true
    ∧ Memory.wf TiltRec.zero ntilt s.tilt = true
    ∧ Memory.wf 0 s.cfg.profile.idLen s.deviceId = true

/-- The queue invariant of rule R19. -/
def Ring.ok {α : Type} (q : Ring α) : Prop := q.head < qcap ∧ q.count ≤ qcap

/-- The mode rule of rule R22: `isGrid` is 0 while not configured. -/
def State.modeOk (s : State) : Prop := s.configured = false → s.isGrid = false

/-- The dimension invariant of rule R23. -/
def State.dimsInv (s : State) : Prop :=
  (gridMode s = true →
      1 ≤ s.rows.toNat ∧ 1 ≤ s.columns.toNat ∧ s.rows.toNat * s.columns.toNat ≤ ledn)
    ∧ (arcMode s = true → 1 ≤ s.encoders.toNat ∧ s.encoders.toNat ≤ arcRings)
    ∧ (s.rows = 0 ∨ s.columns = 0 ∨ s.rows.toNat * s.columns.toNat ≤ ledn)

/-- Law (a) of rule R165. -/
def State.dirtyOk (s : State) : Prop :=
  (s.gridDirty = true → gridMode s = true) ∧ (s.arcDirty = true → arcMode s = true)

/-- The framer's states of rule R132: idle, or collecting a frame its table knows. -/
def State.framerOk (s : State) : Prop :=
  s.rx.state = .collect →
    ∃ e, s.cfg.profile.rxEntry s.rx.cmd = some e ∧ s.rx.need = e.plen ∧ s.rx.cnt < s.rx.need

/-- The local variables of the operation in progress (rules R121, R159, R160). -/
def State.jobOk (s : State) : Prop :=
  match s.job with
  | .idle => True
  | .poll k n => n ≤ k
  | .gridFrames w h quad _ => w * h ≤ ledn ∧ quad < quads w * quads h
  | .arcFrames rings ring => rings ≤ arcRings ∧ ring < rings

/-- The invariant of every reachable state (rules R19, R22, R23, R132, R165). -/
structure State.Inv (s : State) : Prop where
  profile : s.cfg.profile.wf = true
  memory : s.memoryOk
  gridQueue : s.gq.ok
  arcQueue : s.aq.ok
  mode : s.modeOk
  dims : s.dimsInv
  dirty : s.dirtyOk
  framer : s.framerOk
  job : s.jobOk

/-- The 28 values of `op` in the operation map of rule R72, in its order. -/
def opCodes : List Byte :=
  [0x10, 0x11, 0x12, 0x13, 0x14, 0x15, 0x20, 0x21, 0x30, 0x31, 0x32, 0x33, 0x34, 0x35, 0x36, 0x37,
   0x38, 0x39, 0x3A, 0x3B, 0x40, 0x41, 0x42, 0x43, 0x44, 0x45, 0x50, 0x51]

/-- The state and the response after an emission of `bs` that failed after `sent` bytes ended the
operation served (rules R44, R224). -/
def emissionFailed (sent : Nat) (bs : List Byte) (s : State) : State :=
  respond
    { s with
      txs := s.txs ++ bs.take sent
      txPlan := s.txPlan.tail
      txSeq := s.txSeq + 1
      active := false
      probing := false
      rx := { s.rx with state := .idle }
      job := .idle } ⟨0x05, 0, 0, 0⟩

/-- The response slot of the agent whose operation is served (rule R74). -/
def State.servedResp (s : State) : Option Response :=
  match s.port with
  | .host => s.hostResp
  | .prod => s.prodResp

/-- Instructions run one after another, with nothing between them: the responses to the served agent,
in order, and the last state. -/
def execAll : List Instr → State → Option (List Response × State)
  | [], s => some ([], s)
  | i :: is, s =>
    match exec i s with
    | .next t => (execAll is t).map fun (rs, u) => (t.servedResp.toList ++ rs, u)
    | _ => none

/-- The framer takes bytes one after another (rule R122). -/
def feed : List Byte → State → Result
  | [], s => .next s
  | b :: bs, s => andThen (rxStep b s) (feed bs)

/-- The bytes of a whole grid refresh: every quad's frame in row-major order (rule R159). -/
def gridImage (s : State) (w h : Nat) : List Byte :=
  (List.range (quads w * quads h)).flatMap fun k => frameBytes s .gmap (gmapPayload s w h k)

/-- The bytes of a whole arc refresh: every ring's frame in order (rule R160). -/
def arcImage (s : State) (rings : Nat) : List Byte :=
  (List.range rings).flatMap fun n => frameBytes s .amap (amapPayload s n)

/-- Two queues no operation can tell apart: head, count and the unread events agree, whatever the
other slots hold (rules R11, R12). -/
def Ring.sameView {α : Type} (z : α) (a b : Ring α) : Prop :=
  a.head = b.head ∧ a.count = b.count ∧ a.contents z = b.contents z

/-- Two framers no operation can tell apart: the same sequencer state, and while collecting the same
frame so far, whatever the other fields and cells hold (rules R13, R17). -/
def Framer.sameView (a b : Framer) : Prop :=
  a.state = b.state ∧
    (a.state = .collect →
      a.cmd = b.cmd ∧ a.need = b.need ∧ a.cnt = b.cnt ∧
        Memory.readList 0 a.buf 0 a.cnt = Memory.readList 0 b.buf 0 b.cnt)

/-- Two states no operation can tell apart (rules R11, R12, R13, R17): they agree but for the
unspecified cells. -/
def State.sameView (a b : State) : Prop :=
  Ring.sameView GridEvent.zero a.gq b.gq ∧ Ring.sameView ArcEvent.zero a.aq b.aq ∧
    Framer.sameView a.rx b.rx ∧ b = { a with gq := b.gq, aq := b.aq, rx := b.rx }

/-- The step does not stop with a fault (rule R7: every operation is total). -/
def State.safe (s : State) : Prop := ∀ f, step s ≠ .fault f

end Sys2Proof.Machine
end

