-- ==== Sys2Proof/Certificates/Slice0/Obligations.lean ====
section
/-! DEFINITION. The statements about the model, by the rules of the spec they rest on. A response is
read where the model holds it, in the response slot of the agent served (log entry 6). -/

open Sys2Proof Sys2Proof.Machine

/-! ### Encodings -/

/-- Rules R71, R72, R77, R78, R82: decoding the encoding of a well-formed instruction gives it back,
every operand at every value, under every well-formed profile whose sent frames differ in their
first byte. -/
def Obligations.DecodeInvertsEncode : Prop :=
  ∀ (p : Profile) (i : Instr), p.wf = true → p.txDistinct = true → i.wellFormed p = true →
    ∃ e, encode p i = some e ∧ decode p e = .ok i

/-- Words of the spec's test vectors and frame tables, each the instruction the spec says it is. -/
def Obligations.SpecWordsDecode : Prop :=
  decodeCommand 0x1003040100000000 = .ok (.addg 3 4 true)
    ∧ decodeCommand 0x10FFFFFF00000000 = .ok (.addg 0xFF 0xFF true)
    ∧ decodeCommand 0x1200DEADBEEF1234 = .ok .gavail
    ∧ decodeCommand 0x300304C800000000 = .ok (.setgled 3 4 200)
    ∧ decodeCommand 0x4208100000000000 = .ok (.setupg 8 16)
    ∧ decodeCommand 0x51000001FFFE012C = .ok (.sendtilt 0 1 (-2) 300)
    ∧ decodeCommand 0x1600000000000000 = .error (.illegalOp 0x16)
    ∧ decodeRx refProfile [0x21, 0x03, 0x04] = .ok (.rxKeydn 3 4)
    ∧ decodeRx refProfile [0x50, 0x01, 0xFF] = .ok (.rxEnc 1 0xFF)
    ∧ decodeTx refProfile [0x06, 0x10, 0x08] = .ok (.txSize 16 8)
    ∧ decodeTx refProfile [0x81, 0x00, 0x01, 0x00, 0xFE, 0xFF, 0x2C, 0x01]
        = .ok (.txTilt 0 1 (-2) 300)

/-- Rules R70, R71: the fields of the command word are the slices the rules name. -/
def Obligations.FieldsAreTheNamedSlices : Prop :=
  ∀ cw : Command,
    (opField cw).toNat = cw.toNat / 2 ^ 56
    ∧ (aField cw).toNat = cw.toNat / 2 ^ 48 % 2 ^ 8
    ∧ (bField cw).toNat = cw.toNat / 2 ^ 40 % 2 ^ 8
    ∧ (cField cw).toNat = cw.toNat / 2 ^ 32 % 2 ^ 8
    ∧ (xField cw).toNat = cw.toNat / 2 ^ 32 % 2 ^ 16
    ∧ (yField cw).toNat = cw.toNat / 2 ^ 16 % 2 ^ 16
    ∧ (zField cw).toNat = cw.toNat % 2 ^ 16
    ∧ (bitZero (cField cw) = true ↔ cw.toNat / 2 ^ 32 % 2 = 1)
    ∧ (bitZero (bField cw) = true ↔ cw.toNat / 2 ^ 40 % 2 = 1)

/-- Rules R71, R72, R73, R82: each of the 28 values of the operation map decodes to the operation of
its row, with the fields of its format, and every other value is illegal. -/
def Obligations.OpMapIsExact : Prop :=
  opCodes.length = 28 ∧
  ∀ cw : Command,
    (opField cw = 0x10 → decodeCommand cw =
        .ok (.addg (aField cw) (bField cw) (bitZero (cField cw))))
    ∧ (opField cw = 0x11 → decodeCommand cw = .ok (.adda (aField cw) (bField cw)))
    ∧ (opField cw = 0x12 → decodeCommand cw = .ok .gavail)
    ∧ (opField cw = 0x13 → decodeCommand cw = .ok .aavail)
    ∧ (opField cw = 0x14 → decodeCommand cw = .ok .rdg)
    ∧ (opField cw = 0x15 → decodeCommand cw = .ok .rda)
    ∧ (opField cw = 0x20 → decodeCommand cw = .ok .poll)
    ∧ (opField cw = 0x21 → decodeCommand cw = .ok .rxbyte)
    ∧ (opField cw = 0x30 → decodeCommand cw = .ok (.setgled (aField cw) (bField cw) (cField cw)))
    ∧ (opField cw = 0x31 → decodeCommand cw = .ok (.clrgled (aField cw) (bField cw)))
    ∧ (opField cw = 0x32 → decodeCommand cw = .ok (.setaled (aField cw) (bField cw) (cField cw)))
    ∧ (opField cw = 0x33 → decodeCommand cw = .ok (.clraled (aField cw) (bField cw)))
    ∧ (opField cw = 0x34 → decodeCommand cw = .ok (.setall (aField cw)))
    ∧ (opField cw = 0x35 → decodeCommand cw = .ok .clrall)
    ∧ (opField cw = 0x36 → decodeCommand cw = .ok (.clrring (aField cw)))
    ∧ (opField cw = 0x37 → decodeCommand cw = .ok .refreshg)
    ∧ (opField cw = 0x38 → decodeCommand cw = .ok .refresha)
    ∧ (opField cw = 0x39 → decodeCommand cw = .ok .refresh)
    ∧ (opField cw = 0x3A → decodeCommand cw = .ok .sendsize)
    ∧ (opField cw = 0x3B → decodeCommand cw = .ok .sendrot)
    ∧ (opField cw = 0x40 → decodeCommand cw = .ok .init)
    ∧ (opField cw = 0x41 → decodeCommand cw = .ok .getinfo)
    ∧ (opField cw = 0x42 → decodeCommand cw = .ok (.setupg (aField cw) (bField cw)))
    ∧ (opField cw = 0x43 → decodeCommand cw = .ok (.setupa (aField cw)))
    ∧ (opField cw = 0x44 → decodeCommand cw = .ok (.setrot (aField cw)))
    ∧ (opField cw = 0x45 → decodeCommand cw = .ok (.rdreg (aField cw)))
    ∧ (opField cw = 0x50 → decodeCommand cw = .ok (.settilt (aField cw) (bitZero (bField cw))))
    ∧ (opField cw = 0x51 → decodeCommand cw =
        .ok (.sendtilt (aField cw) (xField cw) (yField cw) (zField cw)))
    ∧ (opField cw ∉ opCodes → decodeCommand cw = .error (.illegalOp (opField cw)))

/-- Rule R71: the bits outside a format's fields have no effect on decoding. -/
def Obligations.UnusedBitsAreIgnored : Prop :=
  ∀ cw cw' : Command, opField cw = opField cw' →
    (opField cw ∈ ([0x12, 0x13, 0x14, 0x15, 0x20, 0x21, 0x35, 0x37, 0x38, 0x39, 0x3A, 0x3B, 0x40,
        0x41] : List Byte) → decodeCommand cw = decodeCommand cw')
    ∧ (opField cw ∈ ([0x34, 0x36, 0x43, 0x44, 0x45] : List Byte) → aField cw = aField cw' →
        decodeCommand cw = decodeCommand cw')
    ∧ (opField cw ∈ ([0x11, 0x31, 0x33, 0x42] : List Byte) → aField cw = aField cw' →
        bField cw = bField cw' → decodeCommand cw = decodeCommand cw')
    ∧ (opField cw = 0x50 → aField cw = aField cw' → bitZero (bField cw) = bitZero (bField cw') →
        decodeCommand cw = decodeCommand cw')
    ∧ (opField cw ∈ ([0x30, 0x32] : List Byte) → aField cw = aField cw' → bField cw = bField cw' →
        cField cw = cField cw' → decodeCommand cw = decodeCommand cw')
    ∧ (opField cw = 0x10 → aField cw = aField cw' → bField cw = bField cw' →
        bitZero (cField cw) = bitZero (cField cw') → decodeCommand cw = decodeCommand cw')

/-! ### The step -/

/-- Rules R52, R72, R236: where an agent that is next has a command word of an operation its port
allows, the step runs that operation, with the turn and the word taken and the agent served. HOST
issues only when no operation of its own is in progress; the end of the schedule is HOST's turn
(log entry 5). -/
def Obligations.StepRunsDecodedInstruction : Prop :=
  ∀ (s : State) (cw : Command) (rest : List Command) (i : Instr), s.cfg.profile.wf = true →
    decodeCommand cw = .ok i →
    (s.job = .idle → s.hostProg = cw :: rest → portAllows s.cfg .host i = true →
      (s.schedule = [] →
        step s = exec i { s with port := .host, hostProg := rest })
      ∧ ∀ turns, s.schedule = .host :: turns →
        step s = exec i { s with port := .host, hostProg := rest, schedule := turns })
    ∧ (s.prodProg = cw :: rest → portAllows s.cfg .prod i = true →
      ∀ turns, s.schedule = .prod :: turns →
        step s = exec i { s with port := .prod, prodProg := rest, schedule := turns })

/-- Rule R73: an `op` outside the map raises IllegalOp on either port, with status 0x06 and no
change of the block's state; an operation on a port that rule R72 does not allow for it is refused.
-/
def Obligations.StepAnswersIllegalOps : Prop :=
  ∀ (s : State) (cw : Command) (rest : List Command) (turns : List Turn),
    s.cfg.profile.wf = true →
    (s.job = .idle → s.hostProg = cw :: rest → s.schedule = .host :: turns →
      (opField cw ∉ opCodes →
        step s = .next { s with
          port := .host, hostProg := rest, schedule := turns
          hostResp := some ⟨0x06, 0, 0, 0⟩ })
      ∧ (opField cw = 0x21 → step s = .refused (.portNotAllowed .host 0x21)))
    ∧ (s.prodProg = cw :: rest → s.schedule = .prod :: turns →
      (opField cw ∉ opCodes →
        step s = .next { s with
          port := .prod, prodProg := rest, schedule := turns
          prodResp := some ⟨0x06, 0, 0, 0⟩ })
      ∧ (opField cw ∈ opCodes → opField cw ∉ ([0x10, 0x11, 0x21] : List Byte) →
        step s = .refused (.portNotAllowed .prod (opField cw)))
      ∧ (opField cw = 0x21 → s.cfg.autonomousRx = false →
        step s = .refused (.portNotAllowed .prod 0x21)))

/-- Rules R121, R122, R123: when the byte a POLL turn takes is the last of a frame, the step runs
the frame the collected bytes decode to, in the state with the byte taken and stored; then the
framer is idle and the poll has counted the byte. That a frame of the table is an instruction is log
entry 9. -/
def Obligations.StepRunsReceivedFrame : Prop :=
  ∀ (s : State) (b : Byte) (rest : List Byte) (turns : List Turn) (k n : Nat) (i : Instr),
    s.cfg.profile.wf = true → Memory.wf 0 s.cfg.profile.maxPlen s.rx.buf = true →
    s.schedule = .host :: turns → s.job = .poll k n → n < k → rxEn s = true →
    s.rxs = b :: rest → s.rx.state = .collect → s.rx.cnt + 1 = s.rx.need →
    decodeRx s.cfg.profile (s.rx.cmd :: (Memory.readList 0 s.rx.buf 0 s.rx.cnt ++ [b])) = .ok i →
    step s =
      andThen (exec i (storePayload b { s with port := .host, schedule := turns, rxs := rest }))
        fun t => .next { framerIdle t with job := .poll k (n + 1) }

/-- Rules R159, R160, R150: a turn of a refresh leaves on the stream what the frame it sends leaves,
whatever ENV answers. That a frame runs by itself is log entry 9. The states include those in which
the connection was dropped or the dimensions changed in the middle of the refresh: that the frame
still goes out, and as the operation in progress has it, is the model's reading of log entry 17,
which rule R234's parenthesis does not name. -/
def Obligations.StepSendsRefreshFrame : Prop :=
  ∀ (s : State), s.Inv → s.schedule = [] →
    (∀ w h quad thenArc, s.job = .gridFrames w h quad thenArc →
      ∃ t u, step s = .next t ∧
        exec (.txGmap (BitVec.ofNat 8 (8 * (quad % quads w))) (BitVec.ofNat 8 (8 * (quad / quads w)))
          (packLevels s.cfg.profile (quadLevels s w h quad))) s = .next u ∧
        t.txs = u.txs ∧ t.led = s.led)
    ∧ (∀ rings ring, s.job = .arcFrames rings ring →
      ∃ t u, step s = .next t ∧
        exec (.txAmap (BitVec.ofNat 8 ring)
          (packLevels s.cfg.profile (Memory.readList 0 s.led (64 * ring) 64))) s = .next u ∧
        t.txs = u.txs ∧ t.led = s.led)

/-- Rule R45: TransportDown at any step raises TransportError in the block; the streams keep their
bytes, and so does everything else. -/
def Obligations.TransportDownDropsConnection : Prop :=
  ∀ (s : State) (turns : List Turn), s.cfg.profile.wf = true → s.schedule = .transportDown :: turns →
    step s = .next { s with
      schedule := turns
      active := false
      probing := false
      rx := { s.rx with state := .idle } }

/-- Rule R43: a byte that arrives is the newest of `RXS`, in order, and nothing else happens; with
nothing pending the block waits (rule R250; that the wait is a step is log entry 5). -/
def Obligations.BytesArriveInOrder : Prop :=
  ∀ (s : State), s.cfg.profile.wf = true →
    (∀ b turns, s.schedule = .byteArrive b :: turns →
      step s = .next { s with schedule := turns, rxs := s.rxs ++ [b] })
    ∧ (s.schedule = [] → s.job = .idle → s.hostProg = [] → step s = .next { s with port := .host })

/-! ### Reset and the invariant -/

/-- Rule R36: the reset value of every piece of state that the rule gives one, at power-on and after
INIT. -/
def Obligations.ResetHoldsSpecValues : Prop :=
  ∀ s t : State, (t = State.reset ∨ exec .init s = .next t) →
    t.gq.count = 0 ∧ t.aq.count = 0 ∧ t.gq.head = 0 ∧ t.aq.head = 0
    ∧ (∀ i, ledRead t i = 0)
    ∧ t.gridDirty = false ∧ t.arcDirty = false
    ∧ t.active = false ∧ t.isMonome = false ∧ t.probing = false
    ∧ t.configured = false ∧ t.isGrid = false
    ∧ t.rows = 0 ∧ t.columns = 0 ∧ t.encoders = 0 ∧ t.rotation = 0
    ∧ (∀ i, Memory.read 0 t.deviceId i = 0)
    ∧ (∀ n, (tiltRec t n).active = false ∧ (tiltRec t n).reported = false
        ∧ (tiltRec t n).lastX = 0 ∧ (tiltRec t n).lastY = 0 ∧ (tiltRec t n).lastZ = 0)
    ∧ t.rx.state = .idle

/-- The invariant holds at reset. -/
def Obligations.ResetSatisfiesInvariant : Prop := State.reset.Inv

/-- Rules R19, R22, R23, R132, R165: every step keeps the invariant: canonical address spaces, queue
bounds, mode, dimensions, dirty flags, framer and the operation in progress. -/
def Obligations.StepKeepsInvariant : Prop :=
  ∀ s t : State, s.Inv → step s = .next t → t.Inv

/-- Rule R7: under the invariant no step stops with a fault (the faults are log entry 10). -/
def Obligations.InvariantStepsNeverFault : Prop := ∀ s : State, s.Inv → s.safe

/-- Rules R5, R10: no step changes a parameter (that `State.cfg` holds them is log entry 4). -/
def Obligations.ParametersAreFixed : Prop := ∀ s t : State, step s = .next t → t.cfg = s.cfg

/-- Rules R22, R197: once configured, the mode bits never change in a step, but in one in which HOST
issues INIT. -/
def Obligations.ModeIsFixedWhileConfigured : Prop :=
  ∀ s t : State, s.configured = true → step s = .next t →
    (t.configured = true ∧ t.isGrid = s.isGrid)
    ∨ (s.job = .idle ∧ (s.schedule = [] ∨ ∃ turns, s.schedule = .host :: turns)
      ∧ ∃ cw rest, s.hostProg = cw :: rest ∧ decodeCommand cw = .ok .init)

/-! ### The event queues -/

/-- Rules R100, R101, R104, R105: an add to a queue that is not full makes the event the newest
unread one, and changes nothing else but the response. -/
def Obligations.AddAppendsEvent : Prop :=
  (∀ (s : State) (x y : Byte) (p : Bool), s.gq.count < 50 →
    Memory.wf GridEvent.zero 50 s.gq.buf = true →
    ∃ t, exec (.addg x y p) s = .next t
      ∧ t = respond { s with gq := t.gq } ⟨0, 0, 0, 0⟩
      ∧ t.gq.head = s.gq.head ∧ t.gq.count = s.gq.count + 1
      ∧ t.gq.contents GridEvent.zero = s.gq.contents GridEvent.zero ++ [⟨x, y, p⟩])
  ∧ (∀ (s : State) (n d : Byte), s.aq.count < 50 →
    Memory.wf ArcEvent.zero 50 s.aq.buf = true →
    ∃ t, exec (.adda n d) s = .next t
      ∧ t = respond { s with aq := t.aq } ⟨0, 0, 0, 0⟩
      ∧ t.aq.head = s.aq.head ∧ t.aq.count = s.aq.count + 1
      ∧ t.aq.contents ArcEvent.zero = s.aq.contents ArcEvent.zero ++ [⟨n, d⟩])

/-- Rule R225: an add to a full queue loses the event and changes no state, whether ADDG or ADDA
adds, which are answered OK, or a key or encoder frame that passes its test (rules R124, R125). (The
trace label is not state, rule R223.) -/
def Obligations.FullQueueDropsNewest : Prop :=
  (∀ (s : State) (x y : Byte) (p : Bool), s.gq.count = 50 →
    exec (.addg x y p) s =
      .next (respond { s with trace := s.trace ++ [.capacityDrop .grid] } ⟨0, 0, 0, 0⟩))
  ∧ (∀ (s : State) (n d : Byte), s.aq.count = 50 →
    exec (.adda n d) s =
      .next (respond { s with trace := s.trace ++ [.capacityDrop .arc] } ⟨0, 0, 0, 0⟩))
  ∧ (∀ (s : State) (xp yp : Byte), s.gq.count = 50 → gridMode s = true →
    xp.toNat < s.columns.toNat → yp.toNat < s.rows.toNat →
    exec (.rxKeydn xp yp) s = .next { s with trace := s.trace ++ [.capacityDrop .grid] }
    ∧ exec (.rxKeyup xp yp) s = .next { s with trace := s.trace ++ [.capacityDrop .grid] })
  ∧ (∀ (s : State) (n d : Byte), s.aq.count = 50 → arcMode s = true →
    n.toNat < s.encoders.toNat →
    exec (.rxEnc n d) s = .next { s with trace := s.trace ++ [.capacityDrop .arc] })

/-- Rules R102, R103, R108, R109: a read of a non-empty queue answers its oldest unread event and
removes it, and changes nothing else but the response. -/
def Obligations.ReadTakesOldestEvent : Prop :=
  (∀ (s : State) (e : GridEvent) (es : List GridEvent), s.gq.head < 50 →
    s.gq.contents GridEvent.zero = e :: es →
    ∃ t, exec .rdg s = .next t
      ∧ t = respond { s with gq := t.gq } ⟨0, e.x, e.y, if e.pressed then 1 else 0⟩
      ∧ t.gq.head = (s.gq.head + 1) % 50 ∧ t.gq.count + 1 = s.gq.count ∧ t.gq.buf = s.gq.buf
      ∧ t.gq.contents GridEvent.zero = es)
  ∧ (∀ (s : State) (e : ArcEvent) (es : List ArcEvent), s.aq.head < 50 →
    s.aq.contents ArcEvent.zero = e :: es →
    ∃ t, exec .rda s = .next t
      ∧ t = respond { s with aq := t.aq } ⟨0, e.index, e.delta, 0⟩
      ∧ t.aq.head = (s.aq.head + 1) % 50 ∧ t.aq.count + 1 = s.aq.count ∧ t.aq.buf = s.aq.buf
      ∧ t.aq.contents ArcEvent.zero = es)

/-- Rule R226: a read of an empty queue changes no state and answers the sentinel with status 0x01.
-/
def Obligations.EmptyReadReturnsSentinel : Prop :=
  (∀ s : State, s.gq.count = 0 → exec .rdg s = .next (respond s ⟨0x01, 0, 0, 0⟩))
  ∧ (∀ s : State, s.aq.count = 0 → exec .rda s = .next (respond s ⟨0x01, 0, 0, 0⟩))

/-- Rules R106, R107: the availability checks answer whether an unread event remains, and change
nothing. -/
def Obligations.AvailabilityChecksAnswer : Prop :=
  ∀ s : State,
    exec .gavail s = .next (respond s ⟨0, 0, 0, if s.gq.count = 0 then 0 else 1⟩)
    ∧ exec .aavail s = .next (respond s ⟨0, 0, 0, if s.aq.count = 0 then 0 else 1⟩)

/-- Rules R64, R111: N adds to an empty queue followed by N reads answer the events in the order
added, for N up to 50, wherever the head stands. -/
def Obligations.QueuesAreFifo : Prop :=
  (∀ (s : State) (es : List GridEvent), es.length ≤ 50 → s.gq.count = 0 → s.gq.head < 50 →
    Memory.wf GridEvent.zero 50 s.gq.buf = true →
    ∃ t, execAll (es.map (fun e => Instr.addg e.x e.y e.pressed)
          ++ List.replicate es.length Instr.rdg) s
        = some (List.replicate es.length ⟨0, 0, 0, 0⟩
            ++ es.map (fun e => ⟨0, e.x, e.y, if e.pressed then 1 else 0⟩), t)
      ∧ t.gq.count = 0)
  ∧ (∀ (s : State) (es : List ArcEvent), es.length ≤ 50 → s.aq.count = 0 → s.aq.head < 50 →
    Memory.wf ArcEvent.zero 50 s.aq.buf = true →
    ∃ t, execAll (es.map (fun e => Instr.adda e.index e.delta)
          ++ List.replicate es.length Instr.rda) s
        = some (List.replicate es.length ⟨0, 0, 0, 0⟩
            ++ es.map (fun e => ⟨0, e.index, e.delta, 0⟩), t)
      ∧ t.aq.count = 0)

/-- Rule R66: no step of PROD or ENV lowers a count or moves a head, so an availability answer of 1
stays true until HOST steps. -/
def Obligations.AvailabilityIsStable : Prop :=
  ∀ (s t : State) (turn : Turn) (turns : List Turn), s.schedule = turn :: turns → turn ≠ .host →
    step s = .next t →
    t.gq.head = s.gq.head ∧ s.gq.count ≤ t.gq.count
    ∧ t.aq.head = s.aq.head ∧ s.aq.count ≤ t.aq.count

/-- Rules R11, R12, R13, R17: the unspecified cells are unobservable: two states that agree but for
the slots outside the occupied ranges, the idle framer's fields and the buffer beyond the bytes
collected, step to states that agree in the same sense, or stop alike. -/
def Obligations.UnspecifiedCellsAreUnobservable : Prop :=
  ∀ a b : State, a.Inv → b.Inv → a.sameView b →
    (∀ t, step a = .next t → ∃ u, step b = .next u ∧ t.sameView u)
    ∧ (∀ r, step a = .refused r → step b = .refused r)

/-! ### The decode path -/

/-- Rules R121, R230: POLL's first step takes the snapshot of the bytes available, and nothing else
(what is held of the operation in progress is log entry 7);
with the receiver disabled POLL is a no-op that says so. -/
def Obligations.PollTakesSnapshot : Prop :=
  ∀ s : State,
    (s.active = true ∨ s.probing = true → exec .poll s = .next { s with job := .poll s.rxs.length 0 })
    ∧ (s.active = false → s.probing = false →
      exec .poll s = .next (respond s ⟨0x04, 0, 0, 0⟩))

/-- Rule R121: a POLL that nothing interleaves takes exactly the bytes that were available, one a
step after its snapshot, and then answers whether there were any. A turn of any POLL that has no
byte to take, has used up its snapshot, or finds the receiver disabled (a TransportDown in its
middle) takes none: it answers whether the POLL took one before, and changes nothing else. That the
answer is a step of its own is log entry 7; the empty schedule is log entry 5. -/
def Obligations.PollConsumesWhatWasAvailable : Prop :=
  (∀ s : State, s.Inv → s.schedule = [] → s.hostProg = [0x2000000000000000] → s.job = .idle →
    rxEn s = true →
    ∃ t, Host.Core.run Sys2Proof.core (s.rxs.length + 2) s = .next t
      ∧ t.rxs = [] ∧ t.job = .idle ∧ t.txs = s.txs ∧ t.led = s.led
      ∧ t.hostResp = some ⟨0, 0, 0, if s.rxs.length = 0 then 0 else 1⟩)
  ∧ (∀ (s : State) (k n : Nat), s.cfg.profile.wf = true → s.job = .poll k n →
    (s.rxs = [] ∨ k ≤ n ∨ rxEn s = false) →
    (s.schedule = [] →
      step s = .next { s with
        port := .host, job := .idle, hostResp := some ⟨0, 0, 0, if n = 0 then 0 else 1⟩ })
    ∧ ∀ turns, s.schedule = .host :: turns →
      step s = .next { s with
        port := .host, job := .idle, schedule := turns
        hostResp := some ⟨0, 0, 0, if n = 0 then 0 else 1⟩ })

/-- Rule R120: RXBYTE takes the oldest byte and gives it to the framer; with no byte it answers OK
with 0; with the receiver disabled it takes none. -/
def Obligations.RxbyteTakesOneByte : Prop :=
  ∀ s : State, s.Inv →
    (rxEn s = true → ∀ b rest, s.rxs = b :: rest →
      ∃ t, rxStep b { s with rxs := rest } = .next t ∧ t.rxs = rest
        ∧ exec .rxbyte s = .next (respond t ⟨0, 0, 0, 1⟩))
    ∧ (rxEn s = true → s.rxs = [] → exec .rxbyte s = .next (respond s ⟨0, 0, 0, 0⟩))
    ∧ (rxEn s = false → exec .rxbyte s = .next (respond s ⟨0x04, 0, 0, 0⟩))

/-- Rules R122, R130, R131: the framer's reaction to one byte in each of its situations; a frame its
table says to skip does nothing when it completes. -/
def Obligations.FramerFollowsByteRule : Prop :=
  ∀ (s : State) (b : Byte),
    (∀ n p, dispatchFrame (.skip n) p s = .next s) ∧
    (s.rx.state = .idle → s.cfg.profile.rxEntry b = none →
      rxStep b s = .next { s with trace := s.trace ++ [.protoUnknown b] })
    ∧ (∀ e, s.rx.state = .idle → s.cfg.profile.rxEntry b = some e → e.plen = 0 →
      rxStep b s = dispatchFrame e.kind [] s)
    ∧ (∀ e, s.rx.state = .idle → s.cfg.profile.rxEntry b = some e → e.plen ≠ 0 →
      rxStep b s =
        .next { s with rx := { s.rx with state := .collect, cmd := b, need := e.plen, cnt := 0 } })
    ∧ (s.rx.state = .collect → s.rx.cnt + 1 < s.rx.need → s.rx.need ≤ s.cfg.profile.maxPlen →
      rxStep b s =
        .next { s with
          rx := { s.rx with
            buf := Memory.write 0 s.rx.buf s.rx.cnt b
            cnt := s.rx.cnt + 1 } })
    ∧ (∀ e, s.rx.state = .collect → s.rx.cnt + 1 = s.rx.need →
      s.rx.need ≤ s.cfg.profile.maxPlen → s.cfg.profile.rxEntry s.rx.cmd = some e →
      Memory.wf 0 s.cfg.profile.maxPlen s.rx.buf = true →
      rxStep b s =
        andThen (dispatchFrame e.kind (Memory.readList 0 s.rx.buf 0 s.rx.cnt ++ [b])
            { s with
              rx := { s.rx with
                buf := Memory.write 0 s.rx.buf s.rx.cnt b
                cnt := s.rx.cnt + 1 } })
          fun t => .next { t with rx := { t.rx with state := .idle } })

/-- Rule R132: whatever the bytes, the framer is idle again after the payload bytes still missing,
at most `MAXPLEN` of them. -/
def Obligations.FramerResynchronises : Prop :=
  ∀ (s : State) (bs : List Byte), s.Inv → s.rx.state = .collect →
    bs.length = s.rx.need - s.rx.cnt →
    bs.length ≤ s.cfg.profile.maxPlen ∧ ∃ t, feed bs s = .next t ∧ t.rx.state = .idle

/-- Rule R124: a key frame inside the physical rectangle of a grid enqueues the event at the inverse
rotated coordinates, and changes nothing else. The coordinates under `ROT_DIR = CCW` are the model's
reading of log entry 20. A queue with no place left is the matter of FullQueueDropsNewest. -/
def Obligations.KeyFrameEnqueuesLogicalEvent : Prop :=
  ∀ (s : State) (xp yp : Byte), gridMode s = true → xp.toNat < s.columns.toNat →
    yp.toNat < s.rows.toNat → s.gq.count < 50 → Memory.wf GridEvent.zero 50 s.gq.buf = true →
    (∃ t, exec (.rxKeydn xp yp) s = .next t ∧ t = { s with gq := t.gq } ∧ t.gq.head = s.gq.head
      ∧ ∃ e, t.gq.contents GridEvent.zero = s.gq.contents GridEvent.zero ++ [e]
        ∧ e.pressed = true
        ∧ (e.x.toNat, e.y.toNat) =
            rotInv s.cfg.rotDir s.rotation s.columns.toNat s.rows.toNat xp.toNat yp.toNat)
    ∧ (∃ t, exec (.rxKeyup xp yp) s = .next t ∧ t = { s with gq := t.gq } ∧ t.gq.head = s.gq.head
      ∧ ∃ e, t.gq.contents GridEvent.zero = s.gq.contents GridEvent.zero ++ [e]
        ∧ e.pressed = false
        ∧ (e.x.toNat, e.y.toNat) =
            rotInv s.cfg.rotDir s.rotation s.columns.toNat s.rows.toNat xp.toNat yp.toNat)

/-- Rule R125: an encoder frame of a configured ring enqueues its event, and changes nothing else.
-/
def Obligations.EncoderFrameEnqueuesEvent : Prop :=
  ∀ (s : State) (n d : Byte), arcMode s = true → n.toNat < s.encoders.toNat → s.aq.count < 50 →
    Memory.wf ArcEvent.zero 50 s.aq.buf = true →
    ∃ t, exec (.rxEnc n d) s = .next t ∧ t = { s with aq := t.aq } ∧ t.aq.head = s.aq.head
      ∧ t.aq.contents ArcEvent.zero = s.aq.contents ArcEvent.zero ++ [⟨n, d⟩]

/-- Rules R123, R126, R127: either part of the device-info response activates the controller and
ends the probe; the id bytes are stored unchanged; the capability bytes go through `caps_apply`. -/
def Obligations.InfoFramesActivate : Prop :=
  (∀ (s : State) (c0 c1 r c e : Byte),
    capsApply s.cfg.profile c0 c1 s.rows s.columns s.encoders = (r, c, e) →
    dimsOk s r c e = true →
    exec (.rxInfoCaps c0 c1) s = .next { s with
      rows := r, columns := c, encoders := e, isMonome := true, active := true, probing := false })
  ∧ (∀ (s : State) (id : List Byte), id.length = s.cfg.profile.idLen →
    Memory.wf 0 s.cfg.profile.idLen s.deviceId = true →
    ∃ t, exec (.rxInfoId id) s = .next t
      ∧ t = { s with
        deviceId := t.deviceId, isMonome := true, active := true, probing := false }
      ∧ ∀ k, k < s.cfg.profile.idLen → some (Memory.read 0 t.deviceId k) = id[k]?)

/-- Rules R128, R129: a size frame and a rotation frame that pass their tests set their registers
and nothing else. -/
def Obligations.SizeAndRotationFramesSetRegisters : Prop :=
  (∀ (s : State) (s0 s1 : Byte), arcMode s = true → 1 ≤ s0.toNat → s0.toNat ≤ 4 →
    exec (.rxSize s0 s1) s = .next { s with encoders := s0 })
  ∧ (∀ (s : State) (s0 s1 : Byte), arcMode s = false → 1 ≤ s0.toNat → 1 ≤ s1.toNat →
    s0.toNat * s1.toNat ≤ 256 → exec (.rxSize s0 s1) s = .next { s with columns := s0, rows := s1 })
  ∧ (∀ (s : State) (r : Byte), r.toNat ≤ 3 →
    ∃ t, exec (.rxRot r) s = .next t ∧ t = { s with rotation := t.rotation }
      ∧ t.rotation.toNat = r.toNat)

/-- Rule R222: a complete frame that fails the acceptance test of its kind changes nothing (the
trace label is not state, rule R223). -/
def Obligations.MalformedFramesChangeNothing : Prop :=
  ∀ (s : State) (a b : Byte),
    (gridMode s = false ∨ s.columns.toNat ≤ a.toNat ∨ s.rows.toNat ≤ b.toNat →
      exec (.rxKeydn a b) s = .next { s with trace := s.trace ++ [.protoMalformed s.rx.cmd] }
      ∧ exec (.rxKeyup a b) s = .next { s with trace := s.trace ++ [.protoMalformed s.rx.cmd] })
    ∧ (arcMode s = false ∨ s.encoders.toNat ≤ a.toNat →
      exec (.rxEnc a b) s = .next { s with trace := s.trace ++ [.protoMalformed s.rx.cmd] })
    ∧ (arcMode s = true ∧ (a.toNat = 0 ∨ 4 < a.toNat) ∨
        arcMode s = false ∧ (a.toNat = 0 ∨ b.toNat = 0 ∨ 256 < a.toNat * b.toNat) →
      exec (.rxSize a b) s = .next { s with trace := s.trace ++ [.protoMalformed s.rx.cmd] })
    ∧ (3 < a.toNat →
      exec (.rxRot a) s = .next { s with trace := s.trace ++ [.protoMalformed s.rx.cmd] })
    ∧ (∀ r c e, capsApply s.cfg.profile a b s.rows s.columns s.encoders = (r, c, e) →
      dimsOk s r c e = false →
      exec (.rxInfoCaps a b) s = .next { s with trace := s.trace ++ [.protoMalformed s.rx.cmd] })

/-! ### The rotation mapping -/

/-- Rules R58, R59, R60: the rows of the two mappings, each on its rectangle; with `CCW` rows 1 and
3 are exchanged, in the inverse mapping too, which is the model's reading of log entry 20. Rule R61:
for either sense of rotation the two are inverse bijections between the logical and the physical
rectangle. -/
def Obligations.RotationIsBijection : Prop :=
  (∀ w h x y : Nat,
    (x < w → y < h →
      rotFwd .cw 0 w h x y = (x, y) ∧ rotFwd .cw 2 w h x y = (w - 1 - x, h - 1 - y)
      ∧ rotFwd .ccw 0 w h x y = (x, y) ∧ rotFwd .ccw 2 w h x y = (w - 1 - x, h - 1 - y))
    ∧ (x < h → y < w →
      rotFwd .cw 1 w h x y = (w - 1 - y, x) ∧ rotFwd .cw 3 w h x y = (y, h - 1 - x)
      ∧ rotFwd .ccw 1 w h x y = (y, h - 1 - x) ∧ rotFwd .ccw 3 w h x y = (w - 1 - y, x))
    ∧ (x < w → y < h →
      rotInv .cw 0 w h x y = (x, y) ∧ rotInv .cw 1 w h x y = (y, w - 1 - x)
      ∧ rotInv .cw 2 w h x y = (w - 1 - x, h - 1 - y) ∧ rotInv .cw 3 w h x y = (h - 1 - y, x)
      ∧ rotInv .ccw 0 w h x y = (x, y) ∧ rotInv .ccw 1 w h x y = (h - 1 - y, x)
      ∧ rotInv .ccw 2 w h x y = (w - 1 - x, h - 1 - y) ∧ rotInv .ccw 3 w h x y = (y, w - 1 - x))
    ∧ logicalRect 0 w h = (w, h) ∧ logicalRect 1 w h = (h, w)
    ∧ logicalRect 2 w h = (w, h) ∧ logicalRect 3 w h = (h, w))
  ∧ ∀ (d : RotDir) (r : BitVec 2) (w h x y : Nat), 1 ≤ w → 1 ≤ h →
    (x < (logicalRect r w h).1 → y < (logicalRect r w h).2 →
      (rotFwd d r w h x y).1 < w ∧ (rotFwd d r w h x y).2 < h
      ∧ rotInv d r w h (rotFwd d r w h x y).1 (rotFwd d r w h x y).2 = (x, y))
    ∧ (x < w → y < h →
      (rotInv d r w h x y).1 < (logicalRect r w h).1 ∧ (rotInv d r w h x y).2 < (logicalRect r w h).2
      ∧ rotFwd d r w h (rotInv d r w h x y).1 (rotInv d r w h x y).2 = (x, y))

/-- Rules R58, R62: the setters and the key frames use the one mapping: a key pressed or released at
the physical cell that SETGLED reaches for logical `(x, y)` reports `(x, y)`. That this holds under
`ROT_DIR = CCW` too is the model's reading of log entry 20. -/
def Obligations.KeyAtLitCellReportsItsCoordinates : Prop :=
  ∀ (s : State) (x y xp yp : Byte), gridMode s = true → inLogicalRect s x y = true →
    (xp.toNat, yp.toNat) =
      rotFwd s.cfg.rotDir s.rotation s.columns.toNat s.rows.toNat x.toNat y.toNat →
    s.gq.count < 50 → Memory.wf GridEvent.zero 50 s.gq.buf = true →
    gridCell s x y = yp.toNat * s.columns.toNat + xp.toNat
    ∧ (∃ t, exec (.rxKeydn xp yp) s = .next t
      ∧ t.gq.contents GridEvent.zero = s.gq.contents GridEvent.zero ++ [⟨x, y, true⟩])
    ∧ ∃ t, exec (.rxKeyup xp yp) s = .next t
      ∧ t.gq.contents GridEvent.zero = s.gq.contents GridEvent.zero ++ [⟨x, y, false⟩]

/-! ### LedFrame -/

/-- Rules R54, R59, R152, R153: SETGLED and CLRGLED store one level in the cell of the rotated
coordinates and set `gridDirty`; every other cell and everything else stays. -/
def Obligations.GridSettersWriteOneCell : Prop :=
  ∀ (s : State) (x y v : Byte), gridMode s = true → inLogicalRect s x y = true →
    s.rows.toNat * s.columns.toNat ≤ 256 → Memory.wf 0 256 s.led = true →
    gridCell s x y < 256
    ∧ (∃ t, exec (.setgled x y v) s = .next t
      ∧ t = respond { s with led := t.led, gridDirty := true } ⟨0, 0, 0, 0⟩
      ∧ ∀ i, ledRead t i = if i = gridCell s x y then v else ledRead s i)
    ∧ (∃ t, exec (.clrgled x y) s = .next t
      ∧ t = respond { s with led := t.led, gridDirty := true } ⟨0, 0, 0, 0⟩
      ∧ ∀ i, ledRead t i = if i = gridCell s x y then 0 else ledRead s i)

/-- Rules R55, R154, R155: SETALED and CLRALED store one level in cell `64 n + l` and set
`arcDirty`; every other cell and everything else stays. -/
def Obligations.ArcSettersWriteOneCell : Prop :=
  ∀ (s : State) (n l v : Byte), arcMode s = true → n.toNat < s.encoders.toNat → l.toNat < 64 →
    s.encoders.toNat ≤ 4 → Memory.wf 0 256 s.led = true →
    (∃ t, exec (.setaled n l v) s = .next t
      ∧ t = respond { s with led := t.led, arcDirty := true } ⟨0, 0, 0, 0⟩
      ∧ ∀ i, ledRead t i = if i = 64 * n.toNat + l.toNat then v else ledRead s i)
    ∧ (∃ t, exec (.clraled n l) s = .next t
      ∧ t = respond { s with led := t.led, arcDirty := true } ⟨0, 0, 0, 0⟩
      ∧ ∀ i, ledRead t i = if i = 64 * n.toNat + l.toNat then 0 else ledRead s i)

/-- Rules R156, R157, R158: SETALL and CLRALL give all 256 cells one level and set the dirty flag of
the mode, CLRRING clears the 64 cells of one ring; everything else stays. -/
def Obligations.BulkMutatorsWriteTheirCells : Prop :=
  ∀ s : State, Memory.wf 0 256 s.led = true →
    (∀ v, s.configured = true →
      (∃ t, exec (.setall v) s = .next t
        ∧ t = respond { s with
            led := t.led
            gridDirty := if s.isGrid then true else s.gridDirty
            arcDirty := if s.isGrid then s.arcDirty else true } ⟨0, 0, 0, 0⟩
        ∧ ∀ i, i < 256 → ledRead t i = v)
      ∧ (∃ t, exec .clrall s = .next t
        ∧ t = respond { s with
            led := t.led
            gridDirty := if s.isGrid then true else s.gridDirty
            arcDirty := if s.isGrid then s.arcDirty else true } ⟨0, 0, 0, 0⟩
        ∧ ∀ i, i < 256 → ledRead t i = 0))
    ∧ (∀ n, arcMode s = true → n.toNat < s.encoders.toNat → s.encoders.toNat ≤ 4 →
      ∃ t, exec (.clrring n) s = .next t
        ∧ t = respond { s with led := t.led, arcDirty := true } ⟨0, 0, 0, 0⟩
        ∧ ∀ i, ledRead t i =
            if 64 * n.toNat ≤ i ∧ i < 64 * n.toNat + 64 then 0 else ledRead s i)

/-- Rules R151, R227, R228: a mutator tests the mode first, then the range; one that raises changes
no cell and no flag, and answers 0x02 or 0x03. -/
def Obligations.RejectedMutatorsChangeNothing : Prop :=
  ∀ (s : State) (a b c : Byte),
    (gridMode s = false →
      exec (.setgled a b c) s = .next (respond s ⟨0x02, 0, 0, 0⟩)
      ∧ exec (.clrgled a b) s = .next (respond s ⟨0x02, 0, 0, 0⟩))
    ∧ (gridMode s = true → inLogicalRect s a b = false →
      exec (.setgled a b c) s = .next (respond s ⟨0x03, 0, 0, 0⟩)
      ∧ exec (.clrgled a b) s = .next (respond s ⟨0x03, 0, 0, 0⟩))
    ∧ (arcMode s = false →
      exec (.setaled a b c) s = .next (respond s ⟨0x02, 0, 0, 0⟩)
      ∧ exec (.clraled a b) s = .next (respond s ⟨0x02, 0, 0, 0⟩)
      ∧ exec (.clrring a) s = .next (respond s ⟨0x02, 0, 0, 0⟩))
    ∧ (arcMode s = true → (s.encoders.toNat ≤ a.toNat ∨ 64 ≤ b.toNat) →
      exec (.setaled a b c) s = .next (respond s ⟨0x03, 0, 0, 0⟩)
      ∧ exec (.clraled a b) s = .next (respond s ⟨0x03, 0, 0, 0⟩))
    ∧ (arcMode s = true → s.encoders.toNat ≤ a.toNat →
      exec (.clrring a) s = .next (respond s ⟨0x03, 0, 0, 0⟩))
    ∧ (s.configured = false →
      exec (.setall a) s = .next (respond s ⟨0x02, 0, 0, 0⟩)
      ∧ exec .clrall s = .next (respond s ⟨0x02, 0, 0, 0⟩))

/-! ### Refresh -/

/-- Rules R52, R159 to R161: the first step of a refresh of a dirty region, where the transport
takes the frame: the first frame is on the stream, LedFrame is as it was, and the flag is cleared
exactly when that frame was the only one. That the gates stand in the step of the first frame is log
entry 7. -/
def Obligations.RefreshSendsFirstFrame : Prop :=
  ∀ s : State, s.Inv → s.active = true → nextOutcome s = .ok →
    (s.gridDirty = true → ∀ i, i = .refreshg ∨ i = .refresh →
      ∃ t, exec i s = .next t
        ∧ t.txs = s.txs
            ++ frameBytes s .gmap (gmapPayload s s.columns.toNat s.rows.toNat 0)
        ∧ t = { s with
            txs := t.txs, txPlan := s.txPlan.tail, txSeq := s.txSeq + 1
            gridDirty := t.gridDirty, job := t.job, hostResp := t.hostResp, prodResp := t.prodResp }
        ∧ (t.gridDirty = true ↔ 1 < quads s.columns.toNat * quads s.rows.toNat)
        ∧ (t.job = .idle ↔ t.gridDirty = false)
        ∧ (t.gridDirty = false → t = respond t ⟨0, 0, 0, 1⟩))
    ∧ (s.arcDirty = true → ∀ i, i = .refresha ∨ i = .refresh →
      ∃ t, exec i s = .next t
        ∧ t.txs = s.txs ++ frameBytes s .amap (amapPayload s 0)
        ∧ t = { s with
            txs := t.txs, txPlan := s.txPlan.tail, txSeq := s.txSeq + 1
            arcDirty := t.arcDirty, job := t.job, hostResp := t.hostResp, prodResp := t.prodResp }
        ∧ (t.arcDirty = true ↔ 1 < s.encoders.toNat)
        ∧ (t.job = .idle ↔ t.arcDirty = false)
        ∧ (t.arcDirty = false → t = respond t ⟨0, 0, 0, 1⟩))

/-- Rule R159: a REFRESHG (or a REFRESH) that nothing interleaves and whose emissions all succeed
hands over the whole grid region, one frame a step, then clears `gridDirty` and answers OK with 1.
The step count rests on log entry 7, the empty schedule on log entry 5, `txPlan` on log entry 3. -/
def Obligations.RefreshSendsWholeGrid : Prop :=
  ∀ (s : State) (cw : Command) (plan : List TxOutcome), s.Inv → s.schedule = [] →
    (cw = 0x3700000000000000 ∨ cw = 0x3900000000000000) → s.hostProg = [cw] → s.job = .idle →
    s.active = true → s.gridDirty = true →
    s.txPlan = List.replicate (quads s.columns.toNat * quads s.rows.toNat) .ok ++ plan →
    ∃ t, Host.Core.run Sys2Proof.core (quads s.columns.toNat * quads s.rows.toNat) s = .next t
      ∧ t.txs = s.txs ++ gridImage s s.columns.toNat s.rows.toNat
      ∧ t.gridDirty = false ∧ t.job = .idle ∧ t.led = s.led ∧ t.active = true
      ∧ t.hostResp = some ⟨0, 0, 0, 1⟩

/-- Rule R160: the same of REFRESHA (or a REFRESH) and the arc region, on the same log entries. -/
def Obligations.RefreshSendsWholeArc : Prop :=
  ∀ (s : State) (cw : Command) (plan : List TxOutcome), s.Inv → s.schedule = [] →
    (cw = 0x3800000000000000 ∨ cw = 0x3900000000000000) → s.hostProg = [cw] → s.job = .idle →
    s.active = true → s.arcDirty = true →
    s.txPlan = List.replicate s.encoders.toNat .ok ++ plan →
    ∃ t, Host.Core.run Sys2Proof.core s.encoders.toNat s = .next t
      ∧ t.txs = s.txs ++ arcImage s s.encoders.toNat
      ∧ t.arcDirty = false ∧ t.job = .idle ∧ t.led = s.led ∧ t.active = true
      ∧ t.hostResp = some ⟨0, 0, 0, 1⟩

/-- Rules R161, R165: a refresh of a clean region sends nothing and changes nothing; so a second
refresh with no mutation between is a no-op. -/
def Obligations.CleanRefreshSendsNothing : Prop :=
  ∀ s : State, s.active = true →
    (s.gridDirty = false → exec .refreshg s = .next (respond s ⟨0, 0, 0, 0⟩))
    ∧ (s.arcDirty = false → exec .refresha s = .next (respond s ⟨0, 0, 0, 0⟩))
    ∧ (s.gridDirty = false → s.arcDirty = false →
      exec .refresh s = .next (respond s ⟨0, 0, 0, 0⟩))

/-- Rules R44, R159, R160, R161, R224: where a frame of a refresh fails, the first or a later one,
the bytes before the failure are on the stream, the dirty flags stay, the connection is dropped and
HOST is answered 0x05; nothing else changes. The response has `d0[0] = 1` where the refresh was in
progress and so had sent a frame, else 0 (rule R74). The clauses for a refresh in progress include
states in which the connection was dropped or the dimensions changed in its middle: that its frames
still go out, and fail with TransportError, is the model's reading of log entry 17, which rule
R234's parenthesis does not name. -/
def Obligations.FailedRefreshKeepsDirtyFlags : Prop :=
  ∀ (s : State) (sent : Nat), s.Inv → nextOutcome s = .fail sent →
    (s.active = true → s.gridDirty = true → ∀ i, i = .refreshg ∨ i = .refresh →
      exec i s = .next (emissionFailed sent
        (frameBytes s .gmap (gmapPayload s s.columns.toNat s.rows.toNat 0)) s))
    ∧ (s.active = true → s.arcDirty = true → ∀ i, i = .refresha ∨ i = .refresh →
      exec i s = .next (emissionFailed sent (frameBytes s .amap (amapPayload s 0)) s))
    ∧ (s.schedule = [] → ∀ w h quad thenArc, s.job = .gridFrames w h quad thenArc →
      step s = .next { s with
        port := .host, job := .idle, hostResp := some ⟨0x05, 0, 0, 1⟩
        active := false, probing := false, rx := { s.rx with state := .idle }
        txs := s.txs ++ (frameBytes s .gmap (gmapPayload s w h quad)).take sent
        txPlan := s.txPlan.tail, txSeq := s.txSeq + 1 })
    ∧ (s.schedule = [] → ∀ rings ring, s.job = .arcFrames rings ring →
      step s = .next { s with
        port := .host, job := .idle, hostResp := some ⟨0x05, 0, 0, 1⟩
        active := false, probing := false, rx := { s.rx with state := .idle }
        txs := s.txs ++ (frameBytes s .amap (amapPayload s ring)).take sent
        txPlan := s.txPlan.tail, txSeq := s.txSeq + 1 })

/-! ### The senders and the transport -/

/-- Rules R162, R163, R192: where the transport takes the bytes, SENDSIZE, SENDROT and GETINFO hand
over exactly their frame and answer OK with 1; GETINFO starts probing. -/
def Obligations.SendersEmitTheirBytes : Prop :=
  ∀ s : State, nextOutcome s = .ok →
    (s.active = true → gridMode s = true →
      exec .sendsize s = .next (respond { s with
        txs := s.txs ++ [s.cfg.profile.txSize.cmd, s.columns, s.rows]
        txPlan := s.txPlan.tail, txSeq := s.txSeq + 1 } ⟨0, 0, 0, 1⟩))
    ∧ (s.active = true → arcMode s = true →
      exec .sendsize s = .next (respond { s with
        txs := s.txs ++ [s.cfg.profile.txSize.cmd, s.encoders, 0]
        txPlan := s.txPlan.tail, txSeq := s.txSeq + 1 } ⟨0, 0, 0, 1⟩))
    ∧ (s.active = true →
      exec .sendrot s = .next (respond { s with
        txs := s.txs ++ [s.cfg.profile.txRot.cmd, BitVec.ofNat 8 s.rotation.toNat]
        txPlan := s.txPlan.tail, txSeq := s.txSeq + 1 } ⟨0, 0, 0, 1⟩))
    ∧ exec .getinfo s = .next (respond { s with
        txs := s.txs ++ s.cfg.profile.querySeq
        txPlan := s.txPlan.tail, txSeq := s.txSeq + 1, probing := true } ⟨0, 0, 0, 1⟩)

/-- Rules R44, R224: where the transport fails, an operation with one emission leaves the bytes
before the failure on the stream, clears `active` and `probing`, idles the framer and answers 0x05;
nothing else changes, but SENDTILT has stored the sample first (rules R211, R264), a first one or
one that differs from the sample stored before. -/
def Obligations.FailedEmissionRaisesTransportError : Prop :=
  ∀ (s : State) (sent : Nat), nextOutcome s = .fail sent →
    (s.active = true → gridMode s = true →
      exec .sendsize s
        = .next (emissionFailed sent [s.cfg.profile.txSize.cmd, s.columns, s.rows] s))
    ∧ (s.active = true → arcMode s = true →
      exec .sendsize s
        = .next (emissionFailed sent [s.cfg.profile.txSize.cmd, s.encoders, 0] s))
    ∧ (s.active = true →
      exec .sendrot s
        = .next (emissionFailed sent
            [s.cfg.profile.txRot.cmd, BitVec.ofNat 8 s.rotation.toNat] s))
    ∧ exec .getinfo s = .next (emissionFailed sent s.cfg.profile.querySeq s)
    ∧ (∀ (n : Byte) (x y z : Half), n.toNat < 4 → s.active = true →
      (tiltRec s n.toNat).active = true →
      ¬((tiltRec s n.toNat).reported = true ∧ (tiltRec s n.toNat).lastX = x
        ∧ (tiltRec s n.toNat).lastY = y ∧ (tiltRec s n.toNat).lastZ = z) →
      exec (.sendtilt n x y z) s =
        .next (emissionFailed sent
          (s.cfg.profile.txTilt.cmd :: tiltPayload s.cfg.profile n x y z)
          { s with tilt := Memory.write TiltRec.zero s.tilt n.toNat ⟨true, true, x, y, z⟩ }))

/-- Rule R230: an operation that moves bytes and finds its gate closed is a no-op with status 0x04.
-/
def Obligations.InactiveOperationsAreNoops : Prop :=
  ∀ s : State, s.active = false →
    exec .refreshg s = .next (respond s ⟨0x04, 0, 0, 0⟩)
    ∧ exec .refresha s = .next (respond s ⟨0x04, 0, 0, 0⟩)
    ∧ exec .refresh s = .next (respond s ⟨0x04, 0, 0, 0⟩)
    ∧ (s.configured = true → exec .sendsize s = .next (respond s ⟨0x04, 0, 0, 0⟩))
    ∧ exec .sendrot s = .next (respond s ⟨0x04, 0, 0, 0⟩)
    ∧ (∀ (n : Byte) (x y z : Half), n.toNat < 4 →
      exec (.sendtilt n x y z) s = .next (respond s ⟨0x04, 0, 0, 0⟩))
    ∧ (s.probing = false →
      exec .poll s = .next (respond s ⟨0x04, 0, 0, 0⟩)
      ∧ exec .rxbyte s = .next (respond s ⟨0x04, 0, 0, 0⟩))

/-- Rule R232: an earlier condition of the order hides a later one: ModeError before Inactive in
SENDSIZE, RangeError before Inactive in SENDTILT. -/
def Obligations.FirstConditionIsReported : Prop :=
  ∀ s : State,
    (s.configured = false → exec .sendsize s = .next (respond s ⟨0x02, 0, 0, 0⟩))
    ∧ (∀ (n : Byte) (x y z : Half), 4 ≤ n.toNat →
      exec (.sendtilt n x y z) s = .next (respond s ⟨0x03, 0, 0, 0⟩))

/-- Rules R44, R46, R78: a sent frame puts its command byte and its payload on the stream in order,
and changes nothing else; a failure leaves the bytes before it and drops the connection. That a
frame of the table runs by itself is log entry 9. -/
def Obligations.SentFramesReachTheStream : Prop :=
  ∀ (s : State) (i : Instr) (bs : List Byte),
    (∃ p0 p1, i = .txSize p0 p1 ∧ bs = [s.cfg.profile.txSize.cmd, p0, p1]) ∨
    (∃ r, i = .txRot r ∧ bs = [s.cfg.profile.txRot.cmd, r]) ∨
    (∃ xo yo l, i = .txGmap xo yo l ∧ bs = [s.cfg.profile.txGmap.cmd, xo, yo] ++ l) ∨
    (∃ n l, i = .txAmap n l ∧ bs = [s.cfg.profile.txAmap.cmd, n] ++ l) ∨
    (∃ n x y z, i = .txTilt n x y z ∧
      bs = [s.cfg.profile.txTilt.cmd, n] ++ axisBytes s.cfg.profile.tiltOrder x
        ++ axisBytes s.cfg.profile.tiltOrder y ++ axisBytes s.cfg.profile.tiltOrder z) ∨
    (i = .txQuery ∧ bs = s.cfg.profile.querySeq) →
    (nextOutcome s = .ok →
      exec i s = .next { s with
        txs := s.txs ++ bs, txPlan := s.txPlan.tail, txSeq := s.txSeq + 1 })
    ∧ (∀ sent, nextOutcome s = .fail sent →
      exec i s = .next { s with
        txs := s.txs ++ bs.take sent, txPlan := s.txPlan.tail, txSeq := s.txSeq + 1
        active := false, probing := false, rx := { s.rx with state := .idle } })

/-! ### The controller -/

/-- Rule R191: `op` 0x40 is INIT, and INIT gives every piece of state of the block its reset value,
touches neither stream and answers OK. Two parts of the equality are the model's choice and no
rule's: the slots and framer fields whose reset value rule R36 leaves unspecified become zero (log
entry 1), and the trace, the parameters and the agents' own fields are kept (log entry 15). -/
def Obligations.InitReturnsToReset : Prop :=
  (∀ cw : Command, opField cw = 0x40 → decodeCommand cw = .ok .init)
  ∧ ∀ s : State, exec .init s = .next (respond { State.reset with
    port := s.port, hostResp := s.hostResp, prodResp := s.prodResp, rxs := s.rxs, txs := s.txs
    txPlan := s.txPlan, txSeq := s.txSeq, schedule := s.schedule, hostProg := s.hostProg
    prodProg := s.prodProg, trace := s.trace, cfg := s.cfg } ⟨0, 0, 0, 0⟩)

/-- Rules R193, R194: `op` 0x42 is SETUPG of `a` and `b`, 0x43 is SETUPA of `a`. A setup with legal
dimensions configures its mode and activates, whatever was before but the other mode; with other
dimensions it changes nothing and answers 0x03; in the other mode it changes nothing and answers
0x02. -/
def Obligations.SetupConfiguresItsMode : Prop :=
  (∀ cw : Command,
    (opField cw = 0x42 → decodeCommand cw = .ok (.setupg (aField cw) (bField cw)))
    ∧ (opField cw = 0x43 → decodeCommand cw = .ok (.setupa (aField cw))))
  ∧ ∀ s : State,
    (∀ r c : Byte, arcMode s = true →
      exec (.setupg r c) s = .next (respond s ⟨0x02, 0, 0, 0⟩))
    ∧ (∀ n : Byte, gridMode s = true →
      exec (.setupa n) s = .next (respond s ⟨0x02, 0, 0, 0⟩))
    ∧
    (∀ r c : Byte, arcMode s = false →
      (1 ≤ r.toNat → 1 ≤ c.toNat → r.toNat * c.toNat ≤ 256 →
        exec (.setupg r c) s = .next (respond { s with
          rows := r, columns := c, configured := true, isGrid := true, active := true }
          ⟨0, 0, 0, 0⟩))
      ∧ (r.toNat = 0 ∨ c.toNat = 0 ∨ 256 < r.toNat * c.toNat →
        exec (.setupg r c) s = .next (respond s ⟨0x03, 0, 0, 0⟩)))
    ∧ (∀ n : Byte, gridMode s = false →
      (1 ≤ n.toNat → n.toNat ≤ 4 →
        exec (.setupa n) s = .next (respond { s with
          encoders := n, configured := true, isGrid := false, active := true } ⟨0, 0, 0, 0⟩))
      ∧ (n.toNat = 0 ∨ 4 < n.toNat →
        exec (.setupa n) s = .next (respond s ⟨0x03, 0, 0, 0⟩)))

/-- Rule R195: `op` 0x44 is SETROT of `a`. SETROT writes 0 to 3 and nothing else, and answers 0x03
to any other value. -/
def Obligations.SetrotIsValidated : Prop :=
  (∀ cw : Command, opField cw = 0x44 → decodeCommand cw = .ok (.setrot (aField cw)))
  ∧ ∀ (s : State) (r : Byte),
    (r.toNat ≤ 3 →
      ∃ t, exec (.setrot r) s = .next t
        ∧ t = respond { s with rotation := t.rotation } ⟨0, 0, 0, 0⟩
        ∧ t.rotation.toNat = r.toNat)
    ∧ (3 < r.toNat → exec (.setrot r) s = .next (respond s ⟨0x03, 0, 0, 0⟩))

/-- Rules R29, R196: `op` 0x45 is RDREG of `a`. RDREG answers the register of its number with no
side effect, and 0x03 with data 0 for a number that has none. -/
def Obligations.RegistersReadByNumber : Prop :=
  (∀ cw : Command, opField cw = 0x45 → decodeCommand cw = .ok (.rdreg (aField cw)))
  ∧ ∀ s : State,
    exec (.rdreg 0) s = .next (respond s ⟨0, 0, 0, statusView s⟩)
    ∧ exec (.rdreg 1) s = .next (respond s ⟨0, 0, 0, qstatView s⟩)
    ∧ exec (.rdreg 2) s = .next (respond s ⟨0, 0, 0, s.rows⟩)
    ∧ exec (.rdreg 3) s = .next (respond s ⟨0, 0, 0, s.columns⟩)
    ∧ exec (.rdreg 4) s = .next (respond s ⟨0, 0, 0, s.encoders⟩)
    ∧ exec (.rdreg 5) s = .next (respond s ⟨0, 0, 0, BitVec.ofNat 8 s.rotation.toNat⟩)
    ∧ exec (.rdreg 6) s = .next (respond s ⟨0, 0, 0, tiltActView s⟩)
    ∧ (∀ n : Byte, 0x10 ≤ n.toNat → n.toNat < 0x10 + s.cfg.profile.idLen →
      exec (.rdreg n) s = .next (respond s ⟨0, 0, 0, Memory.read 0 s.deviceId (n.toNat - 0x10)⟩))
    ∧ (∀ n : Byte, 6 < n.toNat → (n.toNat < 0x10 ∨ 0x10 + s.cfg.profile.idLen ≤ n.toNat) →
      exec (.rdreg n) s = .next (respond s ⟨0x03, 0, 0, 0⟩))

/-- Rule R28: the bits of the read views, and that reading one by its number (rule R29) has no side
effect. -/
def Obligations.ReadViewsShowTheFlags : Prop :=
  ∀ s : State,
    ((statusView s).getLsbD 0 = s.active ∧ (statusView s).getLsbD 1 = s.isMonome
      ∧ (statusView s).getLsbD 2 = s.isGrid ∧ (statusView s).getLsbD 3 = s.configured
      ∧ (statusView s).getLsbD 4 = s.probing ∧ (statusView s).getLsbD 5 = s.gridDirty
      ∧ (statusView s).getLsbD 6 = s.arcDirty
      ∧ (statusView s).getLsbD 7 = decide (s.rx.state = .collect))
    ∧ ((qstatView s).getLsbD 0 = decide (s.gq.count ≠ 0)
      ∧ (qstatView s).getLsbD 1 = decide (s.gq.count = 50)
      ∧ (qstatView s).getLsbD 2 = decide (s.aq.count ≠ 0)
      ∧ (qstatView s).getLsbD 3 = decide (s.aq.count = 50)
      ∧ (qstatView s).toNat < 16)
    ∧ ((∀ n, n < 4 → (tiltActView s).getLsbD n = (tiltRec s n).active)
      ∧ (tiltActView s).toNat < 16)
    ∧ exec (.rdreg 0) s = .next (respond s ⟨0, 0, 0, statusView s⟩)
    ∧ exec (.rdreg 1) s = .next (respond s ⟨0, 0, 0, qstatView s⟩)
    ∧ exec (.rdreg 6) s = .next (respond s ⟨0, 0, 0, tiltActView s⟩)
    ∧ exec (.rdreg 5) s = .next (respond s ⟨0, 0, 0, (0 : BitVec 6) ++ s.rotation⟩)

/-- Rules R224, R234: after a TransportError a repeated setup of the same mode makes the controller
active again, with its queues, LedFrame and dirty flags as they were. -/
def Obligations.SetupRevivesDroppedConnection : Prop :=
  ∀ s : State, s.Inv → s.configured = true →
    (s.isGrid = true →
      ∃ t, exec (.setupg s.rows s.columns) (dropConnection s) = .next t ∧ t.active = true
        ∧ t.gq = s.gq ∧ t.aq = s.aq ∧ t.led = s.led ∧ t.gridDirty = s.gridDirty
        ∧ t.rows = s.rows ∧ t.columns = s.columns ∧ t.rotation = s.rotation ∧ t.tilt = s.tilt)
    ∧ (s.isGrid = false →
      ∃ t, exec (.setupa s.encoders) (dropConnection s) = .next t ∧ t.active = true
        ∧ t.gq = s.gq ∧ t.aq = s.aq ∧ t.led = s.led ∧ t.arcDirty = s.arcDirty
        ∧ t.encoders = s.encoders ∧ t.rotation = s.rotation ∧ t.tilt = s.tilt)

/-! ### The tilt tracker -/

/-- Rule R210: `op` 0x50 is SETTILT of `a` and bit 0 of `b`. SETTILT writes the sensor's `active`
and nothing else; a sensor that is none answers 0x03. -/
def Obligations.SettiltTogglesSensor : Prop :=
  (∀ cw : Command, opField cw = 0x50 →
    decodeCommand cw = .ok (.settilt (aField cw) (bitZero (bField cw))))
  ∧ ∀ (s : State) (n : Byte) (v : Bool),
    (n.toNat < 4 → Memory.wf TiltRec.zero 4 s.tilt = true →
      ∃ t, exec (.settilt n v) s = .next t
        ∧ t = respond { s with tilt := t.tilt } ⟨0, 0, 0, 0⟩
        ∧ ∀ k, tiltRec t k =
            if k = n.toNat then { tiltRec s k with active := v } else tiltRec s k)
    ∧ (4 ≤ n.toNat → exec (.settilt n v) s = .next (respond s ⟨0x03, 0, 0, 0⟩))

/-- Rule R211: a sample of an active sensor that is its first or differs from the stored one is
stored and its frame is sent; a sample equal to the stored one, or of a sensor that is off, changes
nothing and is answered OK with 0. -/
def Obligations.SendtiltStoresAndSends : Prop :=
  ∀ (s : State) (n : Byte) (x y z : Half), n.toNat < 4 → s.active = true →
    Memory.wf TiltRec.zero 4 s.tilt = true →
    ((tiltRec s n.toNat).active = true →
      ¬((tiltRec s n.toNat).reported = true ∧ (tiltRec s n.toNat).lastX = x
        ∧ (tiltRec s n.toNat).lastY = y ∧ (tiltRec s n.toNat).lastZ = z) →
      nextOutcome s = .ok →
      ∃ t, exec (.sendtilt n x y z) s = .next t
        ∧ t = respond { s with
            tilt := t.tilt, txs := t.txs, txPlan := s.txPlan.tail, txSeq := s.txSeq + 1 }
            ⟨0, 0, 0, 1⟩
        ∧ t.txs = s.txs ++ [s.cfg.profile.txTilt.cmd, n] ++ axisBytes s.cfg.profile.tiltOrder x
            ++ axisBytes s.cfg.profile.tiltOrder y ++ axisBytes s.cfg.profile.tiltOrder z
        ∧ ∀ k, tiltRec t k = if k = n.toNat then ⟨true, true, x, y, z⟩ else tiltRec s k)
    ∧ ((tiltRec s n.toNat).active = false →
      exec (.sendtilt n x y z) s = .next (respond s ⟨0, 0, 0, 0⟩))
    ∧ ((tiltRec s n.toNat).reported = true → (tiltRec s n.toNat).lastX = x →
      (tiltRec s n.toNat).lastY = y → (tiltRec s n.toNat).lastZ = z →
      exec (.sendtilt n x y z) s = .next (respond s ⟨0, 0, 0, 0⟩))

/-- Rules R211, R212 (a), by the reading of log entry 18: of two consecutive samples of an active
sensor with the same values the second never sends, and changes nothing but the response; the first
sends nothing where it repeats the stored sample, and exactly its one frame otherwise. -/
def Obligations.IdenticalTiltSamplesSendOnce : Prop :=
  ∀ (s t : State) (n : Byte) (x y z : Half), n.toNat < 4 → s.active = true →
    Memory.wf TiltRec.zero 4 s.tilt = true → (tiltRec s n.toNat).active = true →
    nextOutcome s = .ok → exec (.sendtilt n x y z) s = .next t →
    exec (.sendtilt n x y z) t = .next (respond t ⟨0, 0, 0, 0⟩)
    ∧ ((tiltRec s n.toNat).reported = true → (tiltRec s n.toNat).lastX = x →
      (tiltRec s n.toNat).lastY = y → (tiltRec s n.toNat).lastZ = z → t.txs = s.txs)
    ∧ (¬((tiltRec s n.toNat).reported = true ∧ (tiltRec s n.toNat).lastX = x
        ∧ (tiltRec s n.toNat).lastY = y ∧ (tiltRec s n.toNat).lastZ = z) →
      t.txs = s.txs ++ [s.cfg.profile.txTilt.cmd, n] ++ axisBytes s.cfg.profile.tiltOrder x
        ++ axisBytes s.cfg.profile.tiltOrder y ++ axisBytes s.cfg.profile.tiltOrder z)
end

