-- ==== Sys2Proof/Laws/Inv.lean ====
section
/-! SUPPORT. The invariant as a check that runs, so that a concrete state is shown to meet it. -/

namespace Sys2Proof.Machine

/-- `State.framerOk` as a check. -/
def framerCheck (s : State) : Bool :=
  match s.rx.state with
  | .idle => true
  | .collect =>
    match s.cfg.profile.rxEntry s.rx.cmd with
    | none => false
    | some e => s.rx.need == e.plen && decide (s.rx.cnt < s.rx.need)

/-- `State.jobOk` as a check. -/
def jobCheck (s : State) : Bool :=
  match s.job with
  | .idle => true
  | .poll k n => decide (n ≤ k)
  | .gridFrames w h quad _ => decide (w * h ≤ ledn) && decide (quad < quads w * quads h)
  | .arcFrames rings ring => decide (rings ≤ arcRings) && decide (ring < rings)

theorem framerCheck_sound {s : State} (h : framerCheck s = true) : s.framerOk := by
  intro hc
  simp only [framerCheck, hc] at h
  split at h
  · cases h
  · rename_i e he
    simp only [Bool.and_eq_true, beq_iff_eq, decide_eq_true_eq] at h
    exact ⟨e, he, h.1, h.2⟩

theorem jobCheck_sound {s : State} (h : jobCheck s = true) : s.jobOk := by
  unfold State.jobOk
  unfold jobCheck at h
  split <;> simp_all

/-- A state whose parts pass their checks meets the invariant. -/
theorem inv_of_check {s : State}
    (memory : (s.cfg.profile.wf && Memory.wf GridEvent.zero qcap s.gq.buf
      && Memory.wf ArcEvent.zero qcap s.aq.buf && Memory.wf 0 ledn s.led
      && Memory.wf 0 s.cfg.profile.maxPlen s.rx.buf && Memory.wf TiltRec.zero ntilt s.tilt
      && Memory.wf 0 s.cfg.profile.idLen s.deviceId) = true)
    (queues : s.gq.head < qcap ∧ s.gq.count ≤ qcap ∧ s.aq.head < qcap ∧ s.aq.count ≤ qcap)
    (mode : s.configured = false → s.isGrid = false)
    (dims : (gridMode s = true →
        1 ≤ s.rows.toNat ∧ 1 ≤ s.columns.toNat ∧ s.rows.toNat * s.columns.toNat ≤ ledn)
      ∧ (arcMode s = true → 1 ≤ s.encoders.toNat ∧ s.encoders.toNat ≤ arcRings)
      ∧ (s.rows = 0 ∨ s.columns = 0 ∨ s.rows.toNat * s.columns.toNat ≤ ledn))
    (dirty : (s.gridDirty = true → gridMode s = true) ∧ (s.arcDirty = true → arcMode s = true))
    (rest : (framerCheck s && jobCheck s) = true) : s.Inv := by
  simp only [Bool.and_eq_true] at memory rest
  obtain ⟨⟨⟨⟨⟨⟨m1, m2⟩, m3⟩, m4⟩, m5⟩, m6⟩, m7⟩ := memory
  exact ⟨m1, ⟨m2, m3, m4, m5, m6, m7⟩, ⟨queues.1, queues.2.1⟩, queues.2.2, mode, dims, dirty,
    framerCheck_sound rest.1, jobCheck_sound rest.2⟩

end Sys2Proof.Machine
end

