-- ==== Sys2Proof/Laws/Memory.lean ====
section
/-! SUPPORT. The laws of the address spaces: a read after a write, the canonical form every operation
keeps, and that a canonical form is determined by its cells. -/

namespace Sys2Proof.Machine.Memory

variable {α : Type} {z : α} {n : Nat}

@[simp] theorem read_nil (a : Nat) : Memory.read z ([] : Memory α) a = z := rfl

theorem read_cons (k : Nat) (v : α) (m : Memory α) (a : Nat) :
    Memory.read z ((k, v) :: m) a = if k = a then v else Memory.read z m a := rfl

@[simp] theorem readList_length (m : Memory α) (a k : Nat) : (readList z m a k).length = k := by
  simp [readList]

variable [DecidableEq α]

theorem wfFrom_cons {lo k : Nat} {v : α} {m : Memory α} :
    wfFrom z n lo ((k, v) :: m) = true ↔
      lo ≤ k ∧ k < n ∧ v ≠ z ∧ wfFrom z n (k + 1) m = true := by
  simp [wfFrom, and_assoc]

theorem wfFrom_mono {lo lo' : Nat} {m : Memory α} (h : wfFrom z n lo m = true) (hl : lo' ≤ lo) :
    wfFrom z n lo' m = true := by
  cases m with
  | nil => rfl
  | cons c m =>
    obtain ⟨k, v⟩ := c
    rw [wfFrom_cons] at h ⊢
    exact ⟨by omega, h.2⟩

/-- Cells below the first listed address read as the zero value. -/
theorem read_below {m : Memory α} : ∀ {lo a : Nat}, wfFrom z n lo m = true → a < lo →
    Memory.read z m a = z := by
  induction m with
  | nil => intros; rfl
  | cons c m ih =>
    obtain ⟨k, v⟩ := c
    intro lo a h ha
    rw [wfFrom_cons] at h
    rw [read_cons, if_neg (by omega)]
    exact ih h.2.2.2 (by omega)

/-- Cells at and above the size of the space read as the zero value. -/
theorem read_above {m : Memory α} : ∀ {lo a : Nat}, wfFrom z n lo m = true → n ≤ a →
    Memory.read z m a = z := by
  induction m with
  | nil => intros; rfl
  | cons c m ih =>
    obtain ⟨k, v⟩ := c
    intro lo a h ha
    rw [wfFrom_cons] at h
    rw [read_cons, if_neg (by omega)]
    exact ih h.2.2.2 ha

theorem write_wfFrom {m : Memory α} : ∀ {lo a : Nat} {v : α}, wfFrom z n lo m = true → lo ≤ a →
    a < n → wfFrom z n lo (Memory.write z m a v) = true := by
  induction m with
  | nil =>
    intro lo a v _ hl ha
    by_cases hv : v = z
    · simp [Memory.write, hv, wfFrom]
    · simp [Memory.write, hv, wfFrom, hl, ha]
  | cons c m ih =>
    obtain ⟨k, w⟩ := c
    intro lo a v h hl ha
    have h' := wfFrom_cons.mp h
    rw [Memory.write]
    split_ifs with h1 h2 h3 h4
    · exact h
    · rw [wfFrom_cons]
      exact ⟨hl, ha, h2, wfFrom_cons.mpr ⟨by omega, h'.2.1, h'.2.2.1, h'.2.2.2⟩⟩
    · exact wfFrom_mono h'.2.2.2 (by omega)
    · rw [wfFrom_cons]
      exact ⟨hl, ha, h4, wfFrom_mono h'.2.2.2 (by omega)⟩
    · rw [wfFrom_cons]
      exact ⟨h'.1, h'.2.1, h'.2.2.1, ih h'.2.2.2 (by omega) ha⟩

/-- A write to a cell of the space keeps the canonical form. -/
theorem write_wf {m : Memory α} {a : Nat} {v : α} (h : wf z n m = true) (ha : a < n) :
    wf z n (Memory.write z m a v) = true :=
  write_wfFrom h (Nat.zero_le a) ha

theorem read_write_from {m : Memory α} : ∀ {lo a b : Nat} {v : α}, wfFrom z n lo m = true →
    Memory.read z (Memory.write z m a v) b = if a = b then v else Memory.read z m b := by
  induction m with
  | nil =>
    intro lo a b v _
    by_cases hv : v = z
    · simp [Memory.write, hv]
    · simp [Memory.write, hv, read_cons]
  | cons c m ih =>
    obtain ⟨k, w⟩ := c
    intro lo a b v h
    have h' := wfFrom_cons.mp h
    rw [Memory.write]
    split_ifs with h1 h2 h3 h4 h5 h6 h7 h8 h9
    · subst h2; subst h3
      exact read_below (wfFrom_cons.mpr ⟨le_refl k, h'.2⟩) h1
    · rfl
    · rw [read_cons, if_pos h4]
    · rw [read_cons, if_neg h4]
    · subst h5; subst h6; subst h7
      exact read_below h'.2.2.2 (by omega)
    · subst h5
      rw [read_cons, if_neg h7]
    · rw [read_cons, if_pos h8]
    · subst h5
      rw [read_cons, if_neg h8, read_cons, if_neg h8]
    · subst h9
      rw [read_cons, if_neg (Ne.symm h5), ih h'.2.2.2, if_pos rfl]
    · rw [read_cons, read_cons, ih h'.2.2.2, if_neg h9]

/-- Once for both: what a read gives after a write, in a canonical space. -/
theorem read_write {m : Memory α} (h : wf z n m = true) (a b : Nat) (v : α) :
    Memory.read z (Memory.write z m a v) b = if a = b then v else Memory.read z m b :=
  read_write_from h

theorem writeList_wf {m : Memory α} {a : Nat} {vs : List α} (h : wf z n m = true)
    (ha : a + vs.length ≤ n) : wf z n (writeList z m a vs) = true := by
  induction vs generalizing m a with
  | nil => exact h
  | cons v vs ih =>
    simp only [List.length_cons] at ha
    exact ih (write_wf h (by omega)) (by omega)

/-- A list written from `a` on is read back there, and every other cell keeps its value. -/
theorem read_writeList {m : Memory α} {a b : Nat} {vs : List α} (h : wf z n m = true)
    (ha : a + vs.length ≤ n) :
    Memory.read z (writeList z m a vs) b =
      if a ≤ b then (vs[b - a]?).getD (Memory.read z m b) else Memory.read z m b := by
  induction vs generalizing m a with
  | nil => simp [writeList]
  | cons v vs ih =>
    simp only [List.length_cons] at ha
    rw [writeList, ih (write_wf h (by omega)) (by omega), read_write h]
    by_cases h1 : a + 1 ≤ b
    · have : b - a = (b - (a + 1)) + 1 := by omega
      simp [h1, show a ≤ b by omega, show a ≠ b by omega, this]
    · by_cases h2 : a = b
      · subst h2; simp
      · simp [h1, h2, show ¬ a ≤ b by omega]

theorem fill_wf {m : Memory α} {a k : Nat} {v : α} (h : wf z n m = true) (ha : a + k ≤ n) :
    wf z n (fill z m a k v) = true :=
  writeList_wf h (by simpa using ha)

/-- Filled cells hold the value, every other cell keeps its own. -/
theorem read_fill {m : Memory α} {a k b : Nat} {v : α} (h : wf z n m = true) (ha : a + k ≤ n) :
    Memory.read z (fill z m a k v) b =
      if a ≤ b ∧ b < a + k then v else Memory.read z m b := by
  rw [fill, read_writeList h (by simpa using ha)]
  by_cases h1 : a ≤ b
  · by_cases h2 : b < a + k
    · simp [h1, h2, show b - a < k by omega]
    · simp [h1, h2, show ¬ b - a < k by omega]
  · simp [h1]

theorem ext_from {m m' : Memory α} : ∀ {lo : Nat}, wfFrom z n lo m = true →
    wfFrom z n lo m' = true → (∀ a, Memory.read z m a = Memory.read z m' a) → m = m' := by
  induction m generalizing m' with
  | nil =>
    intro lo _ h' he
    cases m' with
    | nil => rfl
    | cons c m' =>
      obtain ⟨k, v⟩ := c
      have := he k
      rw [read_cons, if_pos rfl, read_nil] at this
      exact absurd this.symm (wfFrom_cons.mp h').2.2.1
  | cons c m ih =>
    obtain ⟨k, v⟩ := c
    intro lo h h' he
    have hc := wfFrom_cons.mp h
    cases m' with
    | nil =>
      have := he k
      rw [read_cons, if_pos rfl, read_nil] at this
      exact absurd this hc.2.2.1
    | cons c' m' =>
      obtain ⟨k', v'⟩ := c'
      have hc' := wfFrom_cons.mp h'
      have hkk : k = k' := by
        rcases Nat.lt_trichotomy k k' with hlt | heq | hgt
        · have := he k
          rw [read_cons, if_pos rfl, read_cons, if_neg (by omega),
            read_below hc'.2.2.2 (by omega)] at this
          exact absurd this hc.2.2.1
        · exact heq
        · have := he k'
          rw [read_cons, if_neg (by omega), read_cons, if_pos rfl,
            read_below hc.2.2.2 (by omega)] at this
          exact absurd this.symm hc'.2.2.1
      subst hkk
      have hvv : v = v' := by
        have := he k
        rwa [read_cons, if_pos rfl, read_cons, if_pos rfl] at this
      subst hvv
      rw [ih hc.2.2.2 hc'.2.2.2 fun a => ?_]
      by_cases ha : k = a
      · subst ha
        rw [read_below hc.2.2.2 (by omega), read_below hc'.2.2.2 (by omega)]
      · have := he a
        rwa [read_cons, if_neg ha, read_cons, if_neg ha] at this

/-- Two canonical spaces that read alike at every address are the same data. -/
theorem ext {m m' : Memory α} (h : wf z n m = true) (h' : wf z n m' = true)
    (he : ∀ a, Memory.read z m a = Memory.read z m' a) : m = m' :=
  ext_from h h' he

end Sys2Proof.Machine.Memory
end

