-- ==== Sys2Proof/Laws/State.lean ====
section
/-! SUPPORT. One lemma per field per named update of the state, so that no proof unfolds a record
update. -/

namespace Sys2Proof.Machine

/-! ### respond -/

@[simp] theorem respond_gq (s : State) (r : Response) : (respond s r).gq = s.gq := rfl
@[simp] theorem respond_aq (s : State) (r : Response) : (respond s r).aq = s.aq := rfl
@[simp] theorem respond_led (s : State) (r : Response) : (respond s r).led = s.led := rfl
@[simp] theorem respond_rx (s : State) (r : Response) : (respond s r).rx = s.rx := rfl
@[simp] theorem respond_tilt (s : State) (r : Response) : (respond s r).tilt = s.tilt := rfl
@[simp] theorem respond_deviceId (s : State) (r : Response) : (respond s r).deviceId = s.deviceId := rfl
@[simp] theorem respond_active (s : State) (r : Response) : (respond s r).active = s.active := rfl
@[simp] theorem respond_isMonome (s : State) (r : Response) : (respond s r).isMonome = s.isMonome := rfl
@[simp] theorem respond_probing (s : State) (r : Response) : (respond s r).probing = s.probing := rfl
@[simp] theorem respond_configured (s : State) (r : Response) : (respond s r).configured = s.configured := rfl
@[simp] theorem respond_isGrid (s : State) (r : Response) : (respond s r).isGrid = s.isGrid := rfl
@[simp] theorem respond_gridDirty (s : State) (r : Response) : (respond s r).gridDirty = s.gridDirty := rfl
@[simp] theorem respond_arcDirty (s : State) (r : Response) : (respond s r).arcDirty = s.arcDirty := rfl
@[simp] theorem respond_rows (s : State) (r : Response) : (respond s r).rows = s.rows := rfl
@[simp] theorem respond_columns (s : State) (r : Response) : (respond s r).columns = s.columns := rfl
@[simp] theorem respond_encoders (s : State) (r : Response) : (respond s r).encoders = s.encoders := rfl
@[simp] theorem respond_rotation (s : State) (r : Response) : (respond s r).rotation = s.rotation := rfl
@[simp] theorem respond_job (s : State) (r : Response) : (respond s r).job = s.job := rfl
@[simp] theorem respond_port (s : State) (r : Response) : (respond s r).port = s.port := rfl
@[simp] theorem respond_hostResp (s : State) (r : Response) : (respond s r).hostResp = if s.port = .host then some r else s.hostResp := rfl
@[simp] theorem respond_prodResp (s : State) (r : Response) : (respond s r).prodResp = if s.port = .prod then some r else s.prodResp := rfl
@[simp] theorem respond_rxs (s : State) (r : Response) : (respond s r).rxs = s.rxs := rfl
@[simp] theorem respond_txs (s : State) (r : Response) : (respond s r).txs = s.txs := rfl
@[simp] theorem respond_txPlan (s : State) (r : Response) : (respond s r).txPlan = s.txPlan := rfl
@[simp] theorem respond_txSeq (s : State) (r : Response) : (respond s r).txSeq = s.txSeq := rfl
@[simp] theorem respond_schedule (s : State) (r : Response) : (respond s r).schedule = s.schedule := rfl
@[simp] theorem respond_hostProg (s : State) (r : Response) : (respond s r).hostProg = s.hostProg := rfl
@[simp] theorem respond_prodProg (s : State) (r : Response) : (respond s r).prodProg = s.prodProg := rfl
@[simp] theorem respond_trace (s : State) (r : Response) : (respond s r).trace = s.trace := rfl
@[simp] theorem respond_cfg (s : State) (r : Response) : (respond s r).cfg = s.cfg := rfl

/-! ### done -/

@[simp] theorem done_gq (s : State) (d2 d1 d0 : Byte) : (done s d2 d1 d0).gq = s.gq := rfl
@[simp] theorem done_aq (s : State) (d2 d1 d0 : Byte) : (done s d2 d1 d0).aq = s.aq := rfl
@[simp] theorem done_led (s : State) (d2 d1 d0 : Byte) : (done s d2 d1 d0).led = s.led := rfl
@[simp] theorem done_rx (s : State) (d2 d1 d0 : Byte) : (done s d2 d1 d0).rx = s.rx := rfl
@[simp] theorem done_tilt (s : State) (d2 d1 d0 : Byte) : (done s d2 d1 d0).tilt = s.tilt := rfl
@[simp] theorem done_deviceId (s : State) (d2 d1 d0 : Byte) : (done s d2 d1 d0).deviceId = s.deviceId := rfl
@[simp] theorem done_active (s : State) (d2 d1 d0 : Byte) : (done s d2 d1 d0).active = s.active := rfl
@[simp] theorem done_isMonome (s : State) (d2 d1 d0 : Byte) : (done s d2 d1 d0).isMonome = s.isMonome := rfl
@[simp] theorem done_probing (s : State) (d2 d1 d0 : Byte) : (done s d2 d1 d0).probing = s.probing := rfl
@[simp] theorem done_configured (s : State) (d2 d1 d0 : Byte) : (done s d2 d1 d0).configured = s.configured := rfl
@[simp] theorem done_isGrid (s : State) (d2 d1 d0 : Byte) : (done s d2 d1 d0).isGrid = s.isGrid := rfl
@[simp] theorem done_gridDirty (s : State) (d2 d1 d0 : Byte) : (done s d2 d1 d0).gridDirty = s.gridDirty := rfl
@[simp] theorem done_arcDirty (s : State) (d2 d1 d0 : Byte) : (done s d2 d1 d0).arcDirty = s.arcDirty := rfl
@[simp] theorem done_rows (s : State) (d2 d1 d0 : Byte) : (done s d2 d1 d0).rows = s.rows := rfl
@[simp] theorem done_columns (s : State) (d2 d1 d0 : Byte) : (done s d2 d1 d0).columns = s.columns := rfl
@[simp] theorem done_encoders (s : State) (d2 d1 d0 : Byte) : (done s d2 d1 d0).encoders = s.encoders := rfl
@[simp] theorem done_rotation (s : State) (d2 d1 d0 : Byte) : (done s d2 d1 d0).rotation = s.rotation := rfl
@[simp] theorem done_job (s : State) (d2 d1 d0 : Byte) : (done s d2 d1 d0).job = s.job := rfl
@[simp] theorem done_port (s : State) (d2 d1 d0 : Byte) : (done s d2 d1 d0).port = s.port := rfl
@[simp] theorem done_hostResp (s : State) (d2 d1 d0 : Byte) : (done s d2 d1 d0).hostResp = if s.port = .host then some ⟨0, d2, d1, d0⟩ else s.hostResp := rfl
@[simp] theorem done_prodResp (s : State) (d2 d1 d0 : Byte) : (done s d2 d1 d0).prodResp = if s.port = .prod then some ⟨0, d2, d1, d0⟩ else s.prodResp := rfl
@[simp] theorem done_rxs (s : State) (d2 d1 d0 : Byte) : (done s d2 d1 d0).rxs = s.rxs := rfl
@[simp] theorem done_txs (s : State) (d2 d1 d0 : Byte) : (done s d2 d1 d0).txs = s.txs := rfl
@[simp] theorem done_txPlan (s : State) (d2 d1 d0 : Byte) : (done s d2 d1 d0).txPlan = s.txPlan := rfl
@[simp] theorem done_txSeq (s : State) (d2 d1 d0 : Byte) : (done s d2 d1 d0).txSeq = s.txSeq := rfl
@[simp] theorem done_schedule (s : State) (d2 d1 d0 : Byte) : (done s d2 d1 d0).schedule = s.schedule := rfl
@[simp] theorem done_hostProg (s : State) (d2 d1 d0 : Byte) : (done s d2 d1 d0).hostProg = s.hostProg := rfl
@[simp] theorem done_prodProg (s : State) (d2 d1 d0 : Byte) : (done s d2 d1 d0).prodProg = s.prodProg := rfl
@[simp] theorem done_trace (s : State) (d2 d1 d0 : Byte) : (done s d2 d1 d0).trace = s.trace := rfl
@[simp] theorem done_cfg (s : State) (d2 d1 d0 : Byte) : (done s d2 d1 d0).cfg = s.cfg := rfl

/-! ### label -/

@[simp] theorem label_gq (l : Label) (s : State) : (label l s).gq = s.gq := rfl
@[simp] theorem label_aq (l : Label) (s : State) : (label l s).aq = s.aq := rfl
@[simp] theorem label_led (l : Label) (s : State) : (label l s).led = s.led := rfl
@[simp] theorem label_rx (l : Label) (s : State) : (label l s).rx = s.rx := rfl
@[simp] theorem label_tilt (l : Label) (s : State) : (label l s).tilt = s.tilt := rfl
@[simp] theorem label_deviceId (l : Label) (s : State) : (label l s).deviceId = s.deviceId := rfl
@[simp] theorem label_active (l : Label) (s : State) : (label l s).active = s.active := rfl
@[simp] theorem label_isMonome (l : Label) (s : State) : (label l s).isMonome = s.isMonome := rfl
@[simp] theorem label_probing (l : Label) (s : State) : (label l s).probing = s.probing := rfl
@[simp] theorem label_configured (l : Label) (s : State) : (label l s).configured = s.configured := rfl
@[simp] theorem label_isGrid (l : Label) (s : State) : (label l s).isGrid = s.isGrid := rfl
@[simp] theorem label_gridDirty (l : Label) (s : State) : (label l s).gridDirty = s.gridDirty := rfl
@[simp] theorem label_arcDirty (l : Label) (s : State) : (label l s).arcDirty = s.arcDirty := rfl
@[simp] theorem label_rows (l : Label) (s : State) : (label l s).rows = s.rows := rfl
@[simp] theorem label_columns (l : Label) (s : State) : (label l s).columns = s.columns := rfl
@[simp] theorem label_encoders (l : Label) (s : State) : (label l s).encoders = s.encoders := rfl
@[simp] theorem label_rotation (l : Label) (s : State) : (label l s).rotation = s.rotation := rfl
@[simp] theorem label_job (l : Label) (s : State) : (label l s).job = s.job := rfl
@[simp] theorem label_port (l : Label) (s : State) : (label l s).port = s.port := rfl
@[simp] theorem label_hostResp (l : Label) (s : State) : (label l s).hostResp = s.hostResp := rfl
@[simp] theorem label_prodResp (l : Label) (s : State) : (label l s).prodResp = s.prodResp := rfl
@[simp] theorem label_rxs (l : Label) (s : State) : (label l s).rxs = s.rxs := rfl
@[simp] theorem label_txs (l : Label) (s : State) : (label l s).txs = s.txs := rfl
@[simp] theorem label_txPlan (l : Label) (s : State) : (label l s).txPlan = s.txPlan := rfl
@[simp] theorem label_txSeq (l : Label) (s : State) : (label l s).txSeq = s.txSeq := rfl
@[simp] theorem label_schedule (l : Label) (s : State) : (label l s).schedule = s.schedule := rfl
@[simp] theorem label_hostProg (l : Label) (s : State) : (label l s).hostProg = s.hostProg := rfl
@[simp] theorem label_prodProg (l : Label) (s : State) : (label l s).prodProg = s.prodProg := rfl
@[simp] theorem label_trace (l : Label) (s : State) : (label l s).trace = s.trace ++ [l] := rfl
@[simp] theorem label_cfg (l : Label) (s : State) : (label l s).cfg = s.cfg := rfl

/-! ### malformed -/

@[simp] theorem malformed_gq (s : State) : (malformed s).gq = s.gq := rfl
@[simp] theorem malformed_aq (s : State) : (malformed s).aq = s.aq := rfl
@[simp] theorem malformed_led (s : State) : (malformed s).led = s.led := rfl
@[simp] theorem malformed_rx (s : State) : (malformed s).rx = s.rx := rfl
@[simp] theorem malformed_tilt (s : State) : (malformed s).tilt = s.tilt := rfl
@[simp] theorem malformed_deviceId (s : State) : (malformed s).deviceId = s.deviceId := rfl
@[simp] theorem malformed_active (s : State) : (malformed s).active = s.active := rfl
@[simp] theorem malformed_isMonome (s : State) : (malformed s).isMonome = s.isMonome := rfl
@[simp] theorem malformed_probing (s : State) : (malformed s).probing = s.probing := rfl
@[simp] theorem malformed_configured (s : State) : (malformed s).configured = s.configured := rfl
@[simp] theorem malformed_isGrid (s : State) : (malformed s).isGrid = s.isGrid := rfl
@[simp] theorem malformed_gridDirty (s : State) : (malformed s).gridDirty = s.gridDirty := rfl
@[simp] theorem malformed_arcDirty (s : State) : (malformed s).arcDirty = s.arcDirty := rfl
@[simp] theorem malformed_rows (s : State) : (malformed s).rows = s.rows := rfl
@[simp] theorem malformed_columns (s : State) : (malformed s).columns = s.columns := rfl
@[simp] theorem malformed_encoders (s : State) : (malformed s).encoders = s.encoders := rfl
@[simp] theorem malformed_rotation (s : State) : (malformed s).rotation = s.rotation := rfl
@[simp] theorem malformed_job (s : State) : (malformed s).job = s.job := rfl
@[simp] theorem malformed_port (s : State) : (malformed s).port = s.port := rfl
@[simp] theorem malformed_hostResp (s : State) : (malformed s).hostResp = s.hostResp := rfl
@[simp] theorem malformed_prodResp (s : State) : (malformed s).prodResp = s.prodResp := rfl
@[simp] theorem malformed_rxs (s : State) : (malformed s).rxs = s.rxs := rfl
@[simp] theorem malformed_txs (s : State) : (malformed s).txs = s.txs := rfl
@[simp] theorem malformed_txPlan (s : State) : (malformed s).txPlan = s.txPlan := rfl
@[simp] theorem malformed_txSeq (s : State) : (malformed s).txSeq = s.txSeq := rfl
@[simp] theorem malformed_schedule (s : State) : (malformed s).schedule = s.schedule := rfl
@[simp] theorem malformed_hostProg (s : State) : (malformed s).hostProg = s.hostProg := rfl
@[simp] theorem malformed_prodProg (s : State) : (malformed s).prodProg = s.prodProg := rfl
@[simp] theorem malformed_trace (s : State) : (malformed s).trace = s.trace ++ [.protoMalformed s.rx.cmd] := rfl
@[simp] theorem malformed_cfg (s : State) : (malformed s).cfg = s.cfg := rfl

/-! ### dropConnection -/

@[simp] theorem dropConnection_gq (s : State) : (dropConnection s).gq = s.gq := rfl
@[simp] theorem dropConnection_aq (s : State) : (dropConnection s).aq = s.aq := rfl
@[simp] theorem dropConnection_led (s : State) : (dropConnection s).led = s.led := rfl
@[simp] theorem dropConnection_rx (s : State) : (dropConnection s).rx = { s.rx with state := .idle } := rfl
@[simp] theorem dropConnection_tilt (s : State) : (dropConnection s).tilt = s.tilt := rfl
@[simp] theorem dropConnection_deviceId (s : State) : (dropConnection s).deviceId = s.deviceId := rfl
@[simp] theorem dropConnection_active (s : State) : (dropConnection s).active = false := rfl
@[simp] theorem dropConnection_isMonome (s : State) : (dropConnection s).isMonome = s.isMonome := rfl
@[simp] theorem dropConnection_probing (s : State) : (dropConnection s).probing = false := rfl
@[simp] theorem dropConnection_configured (s : State) : (dropConnection s).configured = s.configured := rfl
@[simp] theorem dropConnection_isGrid (s : State) : (dropConnection s).isGrid = s.isGrid := rfl
@[simp] theorem dropConnection_gridDirty (s : State) : (dropConnection s).gridDirty = s.gridDirty := rfl
@[simp] theorem dropConnection_arcDirty (s : State) : (dropConnection s).arcDirty = s.arcDirty := rfl
@[simp] theorem dropConnection_rows (s : State) : (dropConnection s).rows = s.rows := rfl
@[simp] theorem dropConnection_columns (s : State) : (dropConnection s).columns = s.columns := rfl
@[simp] theorem dropConnection_encoders (s : State) : (dropConnection s).encoders = s.encoders := rfl
@[simp] theorem dropConnection_rotation (s : State) : (dropConnection s).rotation = s.rotation := rfl
@[simp] theorem dropConnection_job (s : State) : (dropConnection s).job = s.job := rfl
@[simp] theorem dropConnection_port (s : State) : (dropConnection s).port = s.port := rfl
@[simp] theorem dropConnection_hostResp (s : State) : (dropConnection s).hostResp = s.hostResp := rfl
@[simp] theorem dropConnection_prodResp (s : State) : (dropConnection s).prodResp = s.prodResp := rfl
@[simp] theorem dropConnection_rxs (s : State) : (dropConnection s).rxs = s.rxs := rfl
@[simp] theorem dropConnection_txs (s : State) : (dropConnection s).txs = s.txs := rfl
@[simp] theorem dropConnection_txPlan (s : State) : (dropConnection s).txPlan = s.txPlan := rfl
@[simp] theorem dropConnection_txSeq (s : State) : (dropConnection s).txSeq = s.txSeq := rfl
@[simp] theorem dropConnection_schedule (s : State) : (dropConnection s).schedule = s.schedule := rfl
@[simp] theorem dropConnection_hostProg (s : State) : (dropConnection s).hostProg = s.hostProg := rfl
@[simp] theorem dropConnection_prodProg (s : State) : (dropConnection s).prodProg = s.prodProg := rfl
@[simp] theorem dropConnection_trace (s : State) : (dropConnection s).trace = s.trace := rfl
@[simp] theorem dropConnection_cfg (s : State) : (dropConnection s).cfg = s.cfg := rfl

/-! ### txEmit -/

@[simp] theorem txEmit_gq (bs : List Byte) (s : State) : (txEmit bs s).gq = s.gq := rfl
@[simp] theorem txEmit_aq (bs : List Byte) (s : State) : (txEmit bs s).aq = s.aq := rfl
@[simp] theorem txEmit_led (bs : List Byte) (s : State) : (txEmit bs s).led = s.led := rfl
@[simp] theorem txEmit_rx (bs : List Byte) (s : State) : (txEmit bs s).rx = s.rx := rfl
@[simp] theorem txEmit_tilt (bs : List Byte) (s : State) : (txEmit bs s).tilt = s.tilt := rfl
@[simp] theorem txEmit_deviceId (bs : List Byte) (s : State) : (txEmit bs s).deviceId = s.deviceId := rfl
@[simp] theorem txEmit_active (bs : List Byte) (s : State) : (txEmit bs s).active = s.active := rfl
@[simp] theorem txEmit_isMonome (bs : List Byte) (s : State) : (txEmit bs s).isMonome = s.isMonome := rfl
@[simp] theorem txEmit_probing (bs : List Byte) (s : State) : (txEmit bs s).probing = s.probing := rfl
@[simp] theorem txEmit_configured (bs : List Byte) (s : State) : (txEmit bs s).configured = s.configured := rfl
@[simp] theorem txEmit_isGrid (bs : List Byte) (s : State) : (txEmit bs s).isGrid = s.isGrid := rfl
@[simp] theorem txEmit_gridDirty (bs : List Byte) (s : State) : (txEmit bs s).gridDirty = s.gridDirty := rfl
@[simp] theorem txEmit_arcDirty (bs : List Byte) (s : State) : (txEmit bs s).arcDirty = s.arcDirty := rfl
@[simp] theorem txEmit_rows (bs : List Byte) (s : State) : (txEmit bs s).rows = s.rows := rfl
@[simp] theorem txEmit_columns (bs : List Byte) (s : State) : (txEmit bs s).columns = s.columns := rfl
@[simp] theorem txEmit_encoders (bs : List Byte) (s : State) : (txEmit bs s).encoders = s.encoders := rfl
@[simp] theorem txEmit_rotation (bs : List Byte) (s : State) : (txEmit bs s).rotation = s.rotation := rfl
@[simp] theorem txEmit_job (bs : List Byte) (s : State) : (txEmit bs s).job = s.job := rfl
@[simp] theorem txEmit_port (bs : List Byte) (s : State) : (txEmit bs s).port = s.port := rfl
@[simp] theorem txEmit_hostResp (bs : List Byte) (s : State) : (txEmit bs s).hostResp = s.hostResp := rfl
@[simp] theorem txEmit_prodResp (bs : List Byte) (s : State) : (txEmit bs s).prodResp = s.prodResp := rfl
@[simp] theorem txEmit_rxs (bs : List Byte) (s : State) : (txEmit bs s).rxs = s.rxs := rfl
@[simp] theorem txEmit_txs (bs : List Byte) (s : State) : (txEmit bs s).txs = s.txs ++ bytesSent (nextOutcome s) bs := rfl
@[simp] theorem txEmit_txPlan (bs : List Byte) (s : State) : (txEmit bs s).txPlan = s.txPlan.tail := rfl
@[simp] theorem txEmit_txSeq (bs : List Byte) (s : State) : (txEmit bs s).txSeq = s.txSeq + 1 := rfl
@[simp] theorem txEmit_schedule (bs : List Byte) (s : State) : (txEmit bs s).schedule = s.schedule := rfl
@[simp] theorem txEmit_hostProg (bs : List Byte) (s : State) : (txEmit bs s).hostProg = s.hostProg := rfl
@[simp] theorem txEmit_prodProg (bs : List Byte) (s : State) : (txEmit bs s).prodProg = s.prodProg := rfl
@[simp] theorem txEmit_trace (bs : List Byte) (s : State) : (txEmit bs s).trace = s.trace := rfl
@[simp] theorem txEmit_cfg (bs : List Byte) (s : State) : (txEmit bs s).cfg = s.cfg := rfl

/-! ### ledWrite -/

@[simp] theorem ledWrite_gq (s : State) (i : Nat) (v : Byte) : (ledWrite s i v).gq = s.gq := rfl
@[simp] theorem ledWrite_aq (s : State) (i : Nat) (v : Byte) : (ledWrite s i v).aq = s.aq := rfl
@[simp] theorem ledWrite_led (s : State) (i : Nat) (v : Byte) : (ledWrite s i v).led = Memory.write 0 s.led i v := rfl
@[simp] theorem ledWrite_rx (s : State) (i : Nat) (v : Byte) : (ledWrite s i v).rx = s.rx := rfl
@[simp] theorem ledWrite_tilt (s : State) (i : Nat) (v : Byte) : (ledWrite s i v).tilt = s.tilt := rfl
@[simp] theorem ledWrite_deviceId (s : State) (i : Nat) (v : Byte) : (ledWrite s i v).deviceId = s.deviceId := rfl
@[simp] theorem ledWrite_active (s : State) (i : Nat) (v : Byte) : (ledWrite s i v).active = s.active := rfl
@[simp] theorem ledWrite_isMonome (s : State) (i : Nat) (v : Byte) : (ledWrite s i v).isMonome = s.isMonome := rfl
@[simp] theorem ledWrite_probing (s : State) (i : Nat) (v : Byte) : (ledWrite s i v).probing = s.probing := rfl
@[simp] theorem ledWrite_configured (s : State) (i : Nat) (v : Byte) : (ledWrite s i v).configured = s.configured := rfl
@[simp] theorem ledWrite_isGrid (s : State) (i : Nat) (v : Byte) : (ledWrite s i v).isGrid = s.isGrid := rfl
@[simp] theorem ledWrite_gridDirty (s : State) (i : Nat) (v : Byte) : (ledWrite s i v).gridDirty = s.gridDirty := rfl
@[simp] theorem ledWrite_arcDirty (s : State) (i : Nat) (v : Byte) : (ledWrite s i v).arcDirty = s.arcDirty := rfl
@[simp] theorem ledWrite_rows (s : State) (i : Nat) (v : Byte) : (ledWrite s i v).rows = s.rows := rfl
@[simp] theorem ledWrite_columns (s : State) (i : Nat) (v : Byte) : (ledWrite s i v).columns = s.columns := rfl
@[simp] theorem ledWrite_encoders (s : State) (i : Nat) (v : Byte) : (ledWrite s i v).encoders = s.encoders := rfl
@[simp] theorem ledWrite_rotation (s : State) (i : Nat) (v : Byte) : (ledWrite s i v).rotation = s.rotation := rfl
@[simp] theorem ledWrite_job (s : State) (i : Nat) (v : Byte) : (ledWrite s i v).job = s.job := rfl
@[simp] theorem ledWrite_port (s : State) (i : Nat) (v : Byte) : (ledWrite s i v).port = s.port := rfl
@[simp] theorem ledWrite_hostResp (s : State) (i : Nat) (v : Byte) : (ledWrite s i v).hostResp = s.hostResp := rfl
@[simp] theorem ledWrite_prodResp (s : State) (i : Nat) (v : Byte) : (ledWrite s i v).prodResp = s.prodResp := rfl
@[simp] theorem ledWrite_rxs (s : State) (i : Nat) (v : Byte) : (ledWrite s i v).rxs = s.rxs := rfl
@[simp] theorem ledWrite_txs (s : State) (i : Nat) (v : Byte) : (ledWrite s i v).txs = s.txs := rfl
@[simp] theorem ledWrite_txPlan (s : State) (i : Nat) (v : Byte) : (ledWrite s i v).txPlan = s.txPlan := rfl
@[simp] theorem ledWrite_txSeq (s : State) (i : Nat) (v : Byte) : (ledWrite s i v).txSeq = s.txSeq := rfl
@[simp] theorem ledWrite_schedule (s : State) (i : Nat) (v : Byte) : (ledWrite s i v).schedule = s.schedule := rfl
@[simp] theorem ledWrite_hostProg (s : State) (i : Nat) (v : Byte) : (ledWrite s i v).hostProg = s.hostProg := rfl
@[simp] theorem ledWrite_prodProg (s : State) (i : Nat) (v : Byte) : (ledWrite s i v).prodProg = s.prodProg := rfl
@[simp] theorem ledWrite_trace (s : State) (i : Nat) (v : Byte) : (ledWrite s i v).trace = s.trace := rfl
@[simp] theorem ledWrite_cfg (s : State) (i : Nat) (v : Byte) : (ledWrite s i v).cfg = s.cfg := rfl

/-! ### setTiltRec -/

@[simp] theorem setTiltRec_gq (s : State) (n : Nat) (r : TiltRec) : (setTiltRec s n r).gq = s.gq := rfl
@[simp] theorem setTiltRec_aq (s : State) (n : Nat) (r : TiltRec) : (setTiltRec s n r).aq = s.aq := rfl
@[simp] theorem setTiltRec_led (s : State) (n : Nat) (r : TiltRec) : (setTiltRec s n r).led = s.led := rfl
@[simp] theorem setTiltRec_rx (s : State) (n : Nat) (r : TiltRec) : (setTiltRec s n r).rx = s.rx := rfl
@[simp] theorem setTiltRec_tilt (s : State) (n : Nat) (r : TiltRec) : (setTiltRec s n r).tilt = Memory.write TiltRec.zero s.tilt n r := rfl
@[simp] theorem setTiltRec_deviceId (s : State) (n : Nat) (r : TiltRec) : (setTiltRec s n r).deviceId = s.deviceId := rfl
@[simp] theorem setTiltRec_active (s : State) (n : Nat) (r : TiltRec) : (setTiltRec s n r).active = s.active := rfl
@[simp] theorem setTiltRec_isMonome (s : State) (n : Nat) (r : TiltRec) : (setTiltRec s n r).isMonome = s.isMonome := rfl
@[simp] theorem setTiltRec_probing (s : State) (n : Nat) (r : TiltRec) : (setTiltRec s n r).probing = s.probing := rfl
@[simp] theorem setTiltRec_configured (s : State) (n : Nat) (r : TiltRec) : (setTiltRec s n r).configured = s.configured := rfl
@[simp] theorem setTiltRec_isGrid (s : State) (n : Nat) (r : TiltRec) : (setTiltRec s n r).isGrid = s.isGrid := rfl
@[simp] theorem setTiltRec_gridDirty (s : State) (n : Nat) (r : TiltRec) : (setTiltRec s n r).gridDirty = s.gridDirty := rfl
@[simp] theorem setTiltRec_arcDirty (s : State) (n : Nat) (r : TiltRec) : (setTiltRec s n r).arcDirty = s.arcDirty := rfl
@[simp] theorem setTiltRec_rows (s : State) (n : Nat) (r : TiltRec) : (setTiltRec s n r).rows = s.rows := rfl
@[simp] theorem setTiltRec_columns (s : State) (n : Nat) (r : TiltRec) : (setTiltRec s n r).columns = s.columns := rfl
@[simp] theorem setTiltRec_encoders (s : State) (n : Nat) (r : TiltRec) : (setTiltRec s n r).encoders = s.encoders := rfl
@[simp] theorem setTiltRec_rotation (s : State) (n : Nat) (r : TiltRec) : (setTiltRec s n r).rotation = s.rotation := rfl
@[simp] theorem setTiltRec_job (s : State) (n : Nat) (r : TiltRec) : (setTiltRec s n r).job = s.job := rfl
@[simp] theorem setTiltRec_port (s : State) (n : Nat) (r : TiltRec) : (setTiltRec s n r).port = s.port := rfl
@[simp] theorem setTiltRec_hostResp (s : State) (n : Nat) (r : TiltRec) : (setTiltRec s n r).hostResp = s.hostResp := rfl
@[simp] theorem setTiltRec_prodResp (s : State) (n : Nat) (r : TiltRec) : (setTiltRec s n r).prodResp = s.prodResp := rfl
@[simp] theorem setTiltRec_rxs (s : State) (n : Nat) (r : TiltRec) : (setTiltRec s n r).rxs = s.rxs := rfl
@[simp] theorem setTiltRec_txs (s : State) (n : Nat) (r : TiltRec) : (setTiltRec s n r).txs = s.txs := rfl
@[simp] theorem setTiltRec_txPlan (s : State) (n : Nat) (r : TiltRec) : (setTiltRec s n r).txPlan = s.txPlan := rfl
@[simp] theorem setTiltRec_txSeq (s : State) (n : Nat) (r : TiltRec) : (setTiltRec s n r).txSeq = s.txSeq := rfl
@[simp] theorem setTiltRec_schedule (s : State) (n : Nat) (r : TiltRec) : (setTiltRec s n r).schedule = s.schedule := rfl
@[simp] theorem setTiltRec_hostProg (s : State) (n : Nat) (r : TiltRec) : (setTiltRec s n r).hostProg = s.hostProg := rfl
@[simp] theorem setTiltRec_prodProg (s : State) (n : Nat) (r : TiltRec) : (setTiltRec s n r).prodProg = s.prodProg := rfl
@[simp] theorem setTiltRec_trace (s : State) (n : Nat) (r : TiltRec) : (setTiltRec s n r).trace = s.trace := rfl
@[simp] theorem setTiltRec_cfg (s : State) (n : Nat) (r : TiltRec) : (setTiltRec s n r).cfg = s.cfg := rfl

/-! ### storePayload -/

@[simp] theorem storePayload_gq (b : Byte) (s : State) : (storePayload b s).gq = s.gq := rfl
@[simp] theorem storePayload_aq (b : Byte) (s : State) : (storePayload b s).aq = s.aq := rfl
@[simp] theorem storePayload_led (b : Byte) (s : State) : (storePayload b s).led = s.led := rfl
@[simp] theorem storePayload_rx (b : Byte) (s : State) : (storePayload b s).rx = { s.rx with buf := Memory.write 0 s.rx.buf s.rx.cnt b, cnt := s.rx.cnt + 1 } := rfl
@[simp] theorem storePayload_tilt (b : Byte) (s : State) : (storePayload b s).tilt = s.tilt := rfl
@[simp] theorem storePayload_deviceId (b : Byte) (s : State) : (storePayload b s).deviceId = s.deviceId := rfl
@[simp] theorem storePayload_active (b : Byte) (s : State) : (storePayload b s).active = s.active := rfl
@[simp] theorem storePayload_isMonome (b : Byte) (s : State) : (storePayload b s).isMonome = s.isMonome := rfl
@[simp] theorem storePayload_probing (b : Byte) (s : State) : (storePayload b s).probing = s.probing := rfl
@[simp] theorem storePayload_configured (b : Byte) (s : State) : (storePayload b s).configured = s.configured := rfl
@[simp] theorem storePayload_isGrid (b : Byte) (s : State) : (storePayload b s).isGrid = s.isGrid := rfl
@[simp] theorem storePayload_gridDirty (b : Byte) (s : State) : (storePayload b s).gridDirty = s.gridDirty := rfl
@[simp] theorem storePayload_arcDirty (b : Byte) (s : State) : (storePayload b s).arcDirty = s.arcDirty := rfl
@[simp] theorem storePayload_rows (b : Byte) (s : State) : (storePayload b s).rows = s.rows := rfl
@[simp] theorem storePayload_columns (b : Byte) (s : State) : (storePayload b s).columns = s.columns := rfl
@[simp] theorem storePayload_encoders (b : Byte) (s : State) : (storePayload b s).encoders = s.encoders := rfl
@[simp] theorem storePayload_rotation (b : Byte) (s : State) : (storePayload b s).rotation = s.rotation := rfl
@[simp] theorem storePayload_job (b : Byte) (s : State) : (storePayload b s).job = s.job := rfl
@[simp] theorem storePayload_port (b : Byte) (s : State) : (storePayload b s).port = s.port := rfl
@[simp] theorem storePayload_hostResp (b : Byte) (s : State) : (storePayload b s).hostResp = s.hostResp := rfl
@[simp] theorem storePayload_prodResp (b : Byte) (s : State) : (storePayload b s).prodResp = s.prodResp := rfl
@[simp] theorem storePayload_rxs (b : Byte) (s : State) : (storePayload b s).rxs = s.rxs := rfl
@[simp] theorem storePayload_txs (b : Byte) (s : State) : (storePayload b s).txs = s.txs := rfl
@[simp] theorem storePayload_txPlan (b : Byte) (s : State) : (storePayload b s).txPlan = s.txPlan := rfl
@[simp] theorem storePayload_txSeq (b : Byte) (s : State) : (storePayload b s).txSeq = s.txSeq := rfl
@[simp] theorem storePayload_schedule (b : Byte) (s : State) : (storePayload b s).schedule = s.schedule := rfl
@[simp] theorem storePayload_hostProg (b : Byte) (s : State) : (storePayload b s).hostProg = s.hostProg := rfl
@[simp] theorem storePayload_prodProg (b : Byte) (s : State) : (storePayload b s).prodProg = s.prodProg := rfl
@[simp] theorem storePayload_trace (b : Byte) (s : State) : (storePayload b s).trace = s.trace := rfl
@[simp] theorem storePayload_cfg (b : Byte) (s : State) : (storePayload b s).cfg = s.cfg := rfl

/-! ### framerIdle -/

@[simp] theorem framerIdle_gq (s : State) : (framerIdle s).gq = s.gq := rfl
@[simp] theorem framerIdle_aq (s : State) : (framerIdle s).aq = s.aq := rfl
@[simp] theorem framerIdle_led (s : State) : (framerIdle s).led = s.led := rfl
@[simp] theorem framerIdle_rx (s : State) : (framerIdle s).rx = { s.rx with state := .idle } := rfl
@[simp] theorem framerIdle_tilt (s : State) : (framerIdle s).tilt = s.tilt := rfl
@[simp] theorem framerIdle_deviceId (s : State) : (framerIdle s).deviceId = s.deviceId := rfl
@[simp] theorem framerIdle_active (s : State) : (framerIdle s).active = s.active := rfl
@[simp] theorem framerIdle_isMonome (s : State) : (framerIdle s).isMonome = s.isMonome := rfl
@[simp] theorem framerIdle_probing (s : State) : (framerIdle s).probing = s.probing := rfl
@[simp] theorem framerIdle_configured (s : State) : (framerIdle s).configured = s.configured := rfl
@[simp] theorem framerIdle_isGrid (s : State) : (framerIdle s).isGrid = s.isGrid := rfl
@[simp] theorem framerIdle_gridDirty (s : State) : (framerIdle s).gridDirty = s.gridDirty := rfl
@[simp] theorem framerIdle_arcDirty (s : State) : (framerIdle s).arcDirty = s.arcDirty := rfl
@[simp] theorem framerIdle_rows (s : State) : (framerIdle s).rows = s.rows := rfl
@[simp] theorem framerIdle_columns (s : State) : (framerIdle s).columns = s.columns := rfl
@[simp] theorem framerIdle_encoders (s : State) : (framerIdle s).encoders = s.encoders := rfl
@[simp] theorem framerIdle_rotation (s : State) : (framerIdle s).rotation = s.rotation := rfl
@[simp] theorem framerIdle_job (s : State) : (framerIdle s).job = s.job := rfl
@[simp] theorem framerIdle_port (s : State) : (framerIdle s).port = s.port := rfl
@[simp] theorem framerIdle_hostResp (s : State) : (framerIdle s).hostResp = s.hostResp := rfl
@[simp] theorem framerIdle_prodResp (s : State) : (framerIdle s).prodResp = s.prodResp := rfl
@[simp] theorem framerIdle_rxs (s : State) : (framerIdle s).rxs = s.rxs := rfl
@[simp] theorem framerIdle_txs (s : State) : (framerIdle s).txs = s.txs := rfl
@[simp] theorem framerIdle_txPlan (s : State) : (framerIdle s).txPlan = s.txPlan := rfl
@[simp] theorem framerIdle_txSeq (s : State) : (framerIdle s).txSeq = s.txSeq := rfl
@[simp] theorem framerIdle_schedule (s : State) : (framerIdle s).schedule = s.schedule := rfl
@[simp] theorem framerIdle_hostProg (s : State) : (framerIdle s).hostProg = s.hostProg := rfl
@[simp] theorem framerIdle_prodProg (s : State) : (framerIdle s).prodProg = s.prodProg := rfl
@[simp] theorem framerIdle_trace (s : State) : (framerIdle s).trace = s.trace := rfl
@[simp] theorem framerIdle_cfg (s : State) : (framerIdle s).cfg = s.cfg := rfl

/-! ### infoSuccess -/

@[simp] theorem infoSuccess_gq (s : State) : (infoSuccess s).gq = s.gq := rfl
@[simp] theorem infoSuccess_aq (s : State) : (infoSuccess s).aq = s.aq := rfl
@[simp] theorem infoSuccess_led (s : State) : (infoSuccess s).led = s.led := rfl
@[simp] theorem infoSuccess_rx (s : State) : (infoSuccess s).rx = s.rx := rfl
@[simp] theorem infoSuccess_tilt (s : State) : (infoSuccess s).tilt = s.tilt := rfl
@[simp] theorem infoSuccess_deviceId (s : State) : (infoSuccess s).deviceId = s.deviceId := rfl
@[simp] theorem infoSuccess_active (s : State) : (infoSuccess s).active = true := rfl
@[simp] theorem infoSuccess_isMonome (s : State) : (infoSuccess s).isMonome = true := rfl
@[simp] theorem infoSuccess_probing (s : State) : (infoSuccess s).probing = false := rfl
@[simp] theorem infoSuccess_configured (s : State) : (infoSuccess s).configured = s.configured := rfl
@[simp] theorem infoSuccess_isGrid (s : State) : (infoSuccess s).isGrid = s.isGrid := rfl
@[simp] theorem infoSuccess_gridDirty (s : State) : (infoSuccess s).gridDirty = s.gridDirty := rfl
@[simp] theorem infoSuccess_arcDirty (s : State) : (infoSuccess s).arcDirty = s.arcDirty := rfl
@[simp] theorem infoSuccess_rows (s : State) : (infoSuccess s).rows = s.rows := rfl
@[simp] theorem infoSuccess_columns (s : State) : (infoSuccess s).columns = s.columns := rfl
@[simp] theorem infoSuccess_encoders (s : State) : (infoSuccess s).encoders = s.encoders := rfl
@[simp] theorem infoSuccess_rotation (s : State) : (infoSuccess s).rotation = s.rotation := rfl
@[simp] theorem infoSuccess_job (s : State) : (infoSuccess s).job = s.job := rfl
@[simp] theorem infoSuccess_port (s : State) : (infoSuccess s).port = s.port := rfl
@[simp] theorem infoSuccess_hostResp (s : State) : (infoSuccess s).hostResp = s.hostResp := rfl
@[simp] theorem infoSuccess_prodResp (s : State) : (infoSuccess s).prodResp = s.prodResp := rfl
@[simp] theorem infoSuccess_rxs (s : State) : (infoSuccess s).rxs = s.rxs := rfl
@[simp] theorem infoSuccess_txs (s : State) : (infoSuccess s).txs = s.txs := rfl
@[simp] theorem infoSuccess_txPlan (s : State) : (infoSuccess s).txPlan = s.txPlan := rfl
@[simp] theorem infoSuccess_txSeq (s : State) : (infoSuccess s).txSeq = s.txSeq := rfl
@[simp] theorem infoSuccess_schedule (s : State) : (infoSuccess s).schedule = s.schedule := rfl
@[simp] theorem infoSuccess_hostProg (s : State) : (infoSuccess s).hostProg = s.hostProg := rfl
@[simp] theorem infoSuccess_prodProg (s : State) : (infoSuccess s).prodProg = s.prodProg := rfl
@[simp] theorem infoSuccess_trace (s : State) : (infoSuccess s).trace = s.trace := rfl
@[simp] theorem infoSuccess_cfg (s : State) : (infoSuccess s).cfg = s.cfg := rfl

/-! ### byteArrive -/

@[simp] theorem byteArrive_gq (b : Byte) (s : State) : (byteArrive b s).gq = s.gq := rfl
@[simp] theorem byteArrive_aq (b : Byte) (s : State) : (byteArrive b s).aq = s.aq := rfl
@[simp] theorem byteArrive_led (b : Byte) (s : State) : (byteArrive b s).led = s.led := rfl
@[simp] theorem byteArrive_rx (b : Byte) (s : State) : (byteArrive b s).rx = s.rx := rfl
@[simp] theorem byteArrive_tilt (b : Byte) (s : State) : (byteArrive b s).tilt = s.tilt := rfl
@[simp] theorem byteArrive_deviceId (b : Byte) (s : State) : (byteArrive b s).deviceId = s.deviceId := rfl
@[simp] theorem byteArrive_active (b : Byte) (s : State) : (byteArrive b s).active = s.active := rfl
@[simp] theorem byteArrive_isMonome (b : Byte) (s : State) : (byteArrive b s).isMonome = s.isMonome := rfl
@[simp] theorem byteArrive_probing (b : Byte) (s : State) : (byteArrive b s).probing = s.probing := rfl
@[simp] theorem byteArrive_configured (b : Byte) (s : State) : (byteArrive b s).configured = s.configured := rfl
@[simp] theorem byteArrive_isGrid (b : Byte) (s : State) : (byteArrive b s).isGrid = s.isGrid := rfl
@[simp] theorem byteArrive_gridDirty (b : Byte) (s : State) : (byteArrive b s).gridDirty = s.gridDirty := rfl
@[simp] theorem byteArrive_arcDirty (b : Byte) (s : State) : (byteArrive b s).arcDirty = s.arcDirty := rfl
@[simp] theorem byteArrive_rows (b : Byte) (s : State) : (byteArrive b s).rows = s.rows := rfl
@[simp] theorem byteArrive_columns (b : Byte) (s : State) : (byteArrive b s).columns = s.columns := rfl
@[simp] theorem byteArrive_encoders (b : Byte) (s : State) : (byteArrive b s).encoders = s.encoders := rfl
@[simp] theorem byteArrive_rotation (b : Byte) (s : State) : (byteArrive b s).rotation = s.rotation := rfl
@[simp] theorem byteArrive_job (b : Byte) (s : State) : (byteArrive b s).job = s.job := rfl
@[simp] theorem byteArrive_port (b : Byte) (s : State) : (byteArrive b s).port = s.port := rfl
@[simp] theorem byteArrive_hostResp (b : Byte) (s : State) : (byteArrive b s).hostResp = s.hostResp := rfl
@[simp] theorem byteArrive_prodResp (b : Byte) (s : State) : (byteArrive b s).prodResp = s.prodResp := rfl
@[simp] theorem byteArrive_rxs (b : Byte) (s : State) : (byteArrive b s).rxs = s.rxs ++ [b] := rfl
@[simp] theorem byteArrive_txs (b : Byte) (s : State) : (byteArrive b s).txs = s.txs := rfl
@[simp] theorem byteArrive_txPlan (b : Byte) (s : State) : (byteArrive b s).txPlan = s.txPlan := rfl
@[simp] theorem byteArrive_txSeq (b : Byte) (s : State) : (byteArrive b s).txSeq = s.txSeq := rfl
@[simp] theorem byteArrive_schedule (b : Byte) (s : State) : (byteArrive b s).schedule = s.schedule := rfl
@[simp] theorem byteArrive_hostProg (b : Byte) (s : State) : (byteArrive b s).hostProg = s.hostProg := rfl
@[simp] theorem byteArrive_prodProg (b : Byte) (s : State) : (byteArrive b s).prodProg = s.prodProg := rfl
@[simp] theorem byteArrive_trace (b : Byte) (s : State) : (byteArrive b s).trace = s.trace := rfl
@[simp] theorem byteArrive_cfg (b : Byte) (s : State) : (byteArrive b s).cfg = s.cfg := rfl

/-! ### raiseWith and raise: the fields they never write -/

@[simp] theorem raiseWith_gq (c : Condition) (d : Byte) (s : State) : (raiseWith c d s).gq = s.gq := by cases c <;> rfl
@[simp] theorem raiseWith_aq (c : Condition) (d : Byte) (s : State) : (raiseWith c d s).aq = s.aq := by cases c <;> rfl
@[simp] theorem raiseWith_led (c : Condition) (d : Byte) (s : State) : (raiseWith c d s).led = s.led := by cases c <;> rfl
@[simp] theorem raiseWith_tilt (c : Condition) (d : Byte) (s : State) : (raiseWith c d s).tilt = s.tilt := by cases c <;> rfl
@[simp] theorem raiseWith_deviceId (c : Condition) (d : Byte) (s : State) : (raiseWith c d s).deviceId = s.deviceId := by cases c <;> rfl
@[simp] theorem raiseWith_isMonome (c : Condition) (d : Byte) (s : State) : (raiseWith c d s).isMonome = s.isMonome := by cases c <;> rfl
@[simp] theorem raiseWith_configured (c : Condition) (d : Byte) (s : State) : (raiseWith c d s).configured = s.configured := by cases c <;> rfl
@[simp] theorem raiseWith_isGrid (c : Condition) (d : Byte) (s : State) : (raiseWith c d s).isGrid = s.isGrid := by cases c <;> rfl
@[simp] theorem raiseWith_gridDirty (c : Condition) (d : Byte) (s : State) : (raiseWith c d s).gridDirty = s.gridDirty := by cases c <;> rfl
@[simp] theorem raiseWith_arcDirty (c : Condition) (d : Byte) (s : State) : (raiseWith c d s).arcDirty = s.arcDirty := by cases c <;> rfl
@[simp] theorem raiseWith_rows (c : Condition) (d : Byte) (s : State) : (raiseWith c d s).rows = s.rows := by cases c <;> rfl
@[simp] theorem raiseWith_columns (c : Condition) (d : Byte) (s : State) : (raiseWith c d s).columns = s.columns := by cases c <;> rfl
@[simp] theorem raiseWith_encoders (c : Condition) (d : Byte) (s : State) : (raiseWith c d s).encoders = s.encoders := by cases c <;> rfl
@[simp] theorem raiseWith_rotation (c : Condition) (d : Byte) (s : State) : (raiseWith c d s).rotation = s.rotation := by cases c <;> rfl
@[simp] theorem raiseWith_job (c : Condition) (d : Byte) (s : State) : (raiseWith c d s).job = s.job := by cases c <;> rfl
@[simp] theorem raiseWith_port (c : Condition) (d : Byte) (s : State) : (raiseWith c d s).port = s.port := by cases c <;> rfl
@[simp] theorem raiseWith_rxs (c : Condition) (d : Byte) (s : State) : (raiseWith c d s).rxs = s.rxs := by cases c <;> rfl
@[simp] theorem raiseWith_txs (c : Condition) (d : Byte) (s : State) : (raiseWith c d s).txs = s.txs := by cases c <;> rfl
@[simp] theorem raiseWith_txPlan (c : Condition) (d : Byte) (s : State) : (raiseWith c d s).txPlan = s.txPlan := by cases c <;> rfl
@[simp] theorem raiseWith_txSeq (c : Condition) (d : Byte) (s : State) : (raiseWith c d s).txSeq = s.txSeq := by cases c <;> rfl
@[simp] theorem raiseWith_schedule (c : Condition) (d : Byte) (s : State) : (raiseWith c d s).schedule = s.schedule := by cases c <;> rfl
@[simp] theorem raiseWith_hostProg (c : Condition) (d : Byte) (s : State) : (raiseWith c d s).hostProg = s.hostProg := by cases c <;> rfl
@[simp] theorem raiseWith_prodProg (c : Condition) (d : Byte) (s : State) : (raiseWith c d s).prodProg = s.prodProg := by cases c <;> rfl
@[simp] theorem raiseWith_trace (c : Condition) (d : Byte) (s : State) : (raiseWith c d s).trace = s.trace := by cases c <;> rfl
@[simp] theorem raiseWith_cfg (c : Condition) (d : Byte) (s : State) : (raiseWith c d s).cfg = s.cfg := by cases c <;> rfl


@[simp] theorem raise_gq (c : Condition) (s : State) : (raise c s).gq = s.gq := by cases c <;> rfl
@[simp] theorem raise_aq (c : Condition) (s : State) : (raise c s).aq = s.aq := by cases c <;> rfl
@[simp] theorem raise_led (c : Condition) (s : State) : (raise c s).led = s.led := by cases c <;> rfl
@[simp] theorem raise_tilt (c : Condition) (s : State) : (raise c s).tilt = s.tilt := by cases c <;> rfl
@[simp] theorem raise_deviceId (c : Condition) (s : State) : (raise c s).deviceId = s.deviceId := by cases c <;> rfl
@[simp] theorem raise_isMonome (c : Condition) (s : State) : (raise c s).isMonome = s.isMonome := by cases c <;> rfl
@[simp] theorem raise_configured (c : Condition) (s : State) : (raise c s).configured = s.configured := by cases c <;> rfl
@[simp] theorem raise_isGrid (c : Condition) (s : State) : (raise c s).isGrid = s.isGrid := by cases c <;> rfl
@[simp] theorem raise_gridDirty (c : Condition) (s : State) : (raise c s).gridDirty = s.gridDirty := by cases c <;> rfl
@[simp] theorem raise_arcDirty (c : Condition) (s : State) : (raise c s).arcDirty = s.arcDirty := by cases c <;> rfl
@[simp] theorem raise_rows (c : Condition) (s : State) : (raise c s).rows = s.rows := by cases c <;> rfl
@[simp] theorem raise_columns (c : Condition) (s : State) : (raise c s).columns = s.columns := by cases c <;> rfl
@[simp] theorem raise_encoders (c : Condition) (s : State) : (raise c s).encoders = s.encoders := by cases c <;> rfl
@[simp] theorem raise_rotation (c : Condition) (s : State) : (raise c s).rotation = s.rotation := by cases c <;> rfl
@[simp] theorem raise_job (c : Condition) (s : State) : (raise c s).job = s.job := by cases c <;> rfl
@[simp] theorem raise_port (c : Condition) (s : State) : (raise c s).port = s.port := by cases c <;> rfl
@[simp] theorem raise_rxs (c : Condition) (s : State) : (raise c s).rxs = s.rxs := by cases c <;> rfl
@[simp] theorem raise_txs (c : Condition) (s : State) : (raise c s).txs = s.txs := by cases c <;> rfl
@[simp] theorem raise_txPlan (c : Condition) (s : State) : (raise c s).txPlan = s.txPlan := by cases c <;> rfl
@[simp] theorem raise_txSeq (c : Condition) (s : State) : (raise c s).txSeq = s.txSeq := by cases c <;> rfl
@[simp] theorem raise_schedule (c : Condition) (s : State) : (raise c s).schedule = s.schedule := by cases c <;> rfl
@[simp] theorem raise_hostProg (c : Condition) (s : State) : (raise c s).hostProg = s.hostProg := by cases c <;> rfl
@[simp] theorem raise_prodProg (c : Condition) (s : State) : (raise c s).prodProg = s.prodProg := by cases c <;> rfl
@[simp] theorem raise_trace (c : Condition) (s : State) : (raise c s).trace = s.trace := by cases c <;> rfl
@[simp] theorem raise_cfg (c : Condition) (s : State) : (raise c s).cfg = s.cfg := by cases c <;> rfl

/-! ### effect: the fields it never writes -/

@[simp] theorem effect_gq (c : Condition) (s : State) : (c.effect s).gq = s.gq := by cases c <;> rfl
@[simp] theorem effect_aq (c : Condition) (s : State) : (c.effect s).aq = s.aq := by cases c <;> rfl
@[simp] theorem effect_led (c : Condition) (s : State) : (c.effect s).led = s.led := by cases c <;> rfl
@[simp] theorem effect_tilt (c : Condition) (s : State) : (c.effect s).tilt = s.tilt := by cases c <;> rfl
@[simp] theorem effect_deviceId (c : Condition) (s : State) : (c.effect s).deviceId = s.deviceId := by cases c <;> rfl
@[simp] theorem effect_isMonome (c : Condition) (s : State) : (c.effect s).isMonome = s.isMonome := by cases c <;> rfl
@[simp] theorem effect_configured (c : Condition) (s : State) : (c.effect s).configured = s.configured := by cases c <;> rfl
@[simp] theorem effect_isGrid (c : Condition) (s : State) : (c.effect s).isGrid = s.isGrid := by cases c <;> rfl
@[simp] theorem effect_gridDirty (c : Condition) (s : State) : (c.effect s).gridDirty = s.gridDirty := by cases c <;> rfl
@[simp] theorem effect_arcDirty (c : Condition) (s : State) : (c.effect s).arcDirty = s.arcDirty := by cases c <;> rfl
@[simp] theorem effect_rows (c : Condition) (s : State) : (c.effect s).rows = s.rows := by cases c <;> rfl
@[simp] theorem effect_columns (c : Condition) (s : State) : (c.effect s).columns = s.columns := by cases c <;> rfl
@[simp] theorem effect_encoders (c : Condition) (s : State) : (c.effect s).encoders = s.encoders := by cases c <;> rfl
@[simp] theorem effect_rotation (c : Condition) (s : State) : (c.effect s).rotation = s.rotation := by cases c <;> rfl
@[simp] theorem effect_job (c : Condition) (s : State) : (c.effect s).job = s.job := by cases c <;> rfl
@[simp] theorem effect_port (c : Condition) (s : State) : (c.effect s).port = s.port := by cases c <;> rfl
@[simp] theorem effect_hostResp (c : Condition) (s : State) : (c.effect s).hostResp = s.hostResp := by cases c <;> rfl
@[simp] theorem effect_prodResp (c : Condition) (s : State) : (c.effect s).prodResp = s.prodResp := by cases c <;> rfl
@[simp] theorem effect_rxs (c : Condition) (s : State) : (c.effect s).rxs = s.rxs := by cases c <;> rfl
@[simp] theorem effect_txs (c : Condition) (s : State) : (c.effect s).txs = s.txs := by cases c <;> rfl
@[simp] theorem effect_txPlan (c : Condition) (s : State) : (c.effect s).txPlan = s.txPlan := by cases c <;> rfl
@[simp] theorem effect_txSeq (c : Condition) (s : State) : (c.effect s).txSeq = s.txSeq := by cases c <;> rfl
@[simp] theorem effect_schedule (c : Condition) (s : State) : (c.effect s).schedule = s.schedule := by cases c <;> rfl
@[simp] theorem effect_hostProg (c : Condition) (s : State) : (c.effect s).hostProg = s.hostProg := by cases c <;> rfl
@[simp] theorem effect_prodProg (c : Condition) (s : State) : (c.effect s).prodProg = s.prodProg := by cases c <;> rfl
@[simp] theorem effect_trace (c : Condition) (s : State) : (c.effect s).trace = s.trace := by cases c <;> rfl
@[simp] theorem effect_cfg (c : Condition) (s : State) : (c.effect s).cfg = s.cfg := by cases c <;> rfl

/-! ### qAddG: the fields it never writes -/

@[simp] theorem qAddG_aq (e : GridEvent) (s : State) : (qAddG e s).aq = s.aq := by unfold qAddG; split <;> rfl
@[simp] theorem qAddG_led (e : GridEvent) (s : State) : (qAddG e s).led = s.led := by unfold qAddG; split <;> rfl
@[simp] theorem qAddG_rx (e : GridEvent) (s : State) : (qAddG e s).rx = s.rx := by unfold qAddG; split <;> rfl
@[simp] theorem qAddG_tilt (e : GridEvent) (s : State) : (qAddG e s).tilt = s.tilt := by unfold qAddG; split <;> rfl
@[simp] theorem qAddG_deviceId (e : GridEvent) (s : State) : (qAddG e s).deviceId = s.deviceId := by unfold qAddG; split <;> rfl
@[simp] theorem qAddG_active (e : GridEvent) (s : State) : (qAddG e s).active = s.active := by unfold qAddG; split <;> rfl
@[simp] theorem qAddG_isMonome (e : GridEvent) (s : State) : (qAddG e s).isMonome = s.isMonome := by unfold qAddG; split <;> rfl
@[simp] theorem qAddG_probing (e : GridEvent) (s : State) : (qAddG e s).probing = s.probing := by unfold qAddG; split <;> rfl
@[simp] theorem qAddG_configured (e : GridEvent) (s : State) : (qAddG e s).configured = s.configured := by unfold qAddG; split <;> rfl
@[simp] theorem qAddG_isGrid (e : GridEvent) (s : State) : (qAddG e s).isGrid = s.isGrid := by unfold qAddG; split <;> rfl
@[simp] theorem qAddG_gridDirty (e : GridEvent) (s : State) : (qAddG e s).gridDirty = s.gridDirty := by unfold qAddG; split <;> rfl
@[simp] theorem qAddG_arcDirty (e : GridEvent) (s : State) : (qAddG e s).arcDirty = s.arcDirty := by unfold qAddG; split <;> rfl
@[simp] theorem qAddG_rows (e : GridEvent) (s : State) : (qAddG e s).rows = s.rows := by unfold qAddG; split <;> rfl
@[simp] theorem qAddG_columns (e : GridEvent) (s : State) : (qAddG e s).columns = s.columns := by unfold qAddG; split <;> rfl
@[simp] theorem qAddG_encoders (e : GridEvent) (s : State) : (qAddG e s).encoders = s.encoders := by unfold qAddG; split <;> rfl
@[simp] theorem qAddG_rotation (e : GridEvent) (s : State) : (qAddG e s).rotation = s.rotation := by unfold qAddG; split <;> rfl
@[simp] theorem qAddG_job (e : GridEvent) (s : State) : (qAddG e s).job = s.job := by unfold qAddG; split <;> rfl
@[simp] theorem qAddG_port (e : GridEvent) (s : State) : (qAddG e s).port = s.port := by unfold qAddG; split <;> rfl
@[simp] theorem qAddG_hostResp (e : GridEvent) (s : State) : (qAddG e s).hostResp = s.hostResp := by unfold qAddG; split <;> rfl
@[simp] theorem qAddG_prodResp (e : GridEvent) (s : State) : (qAddG e s).prodResp = s.prodResp := by unfold qAddG; split <;> rfl
@[simp] theorem qAddG_rxs (e : GridEvent) (s : State) : (qAddG e s).rxs = s.rxs := by unfold qAddG; split <;> rfl
@[simp] theorem qAddG_txs (e : GridEvent) (s : State) : (qAddG e s).txs = s.txs := by unfold qAddG; split <;> rfl
@[simp] theorem qAddG_txPlan (e : GridEvent) (s : State) : (qAddG e s).txPlan = s.txPlan := by unfold qAddG; split <;> rfl
@[simp] theorem qAddG_txSeq (e : GridEvent) (s : State) : (qAddG e s).txSeq = s.txSeq := by unfold qAddG; split <;> rfl
@[simp] theorem qAddG_schedule (e : GridEvent) (s : State) : (qAddG e s).schedule = s.schedule := by unfold qAddG; split <;> rfl
@[simp] theorem qAddG_hostProg (e : GridEvent) (s : State) : (qAddG e s).hostProg = s.hostProg := by unfold qAddG; split <;> rfl
@[simp] theorem qAddG_prodProg (e : GridEvent) (s : State) : (qAddG e s).prodProg = s.prodProg := by unfold qAddG; split <;> rfl
@[simp] theorem qAddG_cfg (e : GridEvent) (s : State) : (qAddG e s).cfg = s.cfg := by unfold qAddG; split <;> rfl

/-! ### qAddA: the fields it never writes -/

@[simp] theorem qAddA_gq (e : ArcEvent) (s : State) : (qAddA e s).gq = s.gq := by unfold qAddA; split <;> rfl
@[simp] theorem qAddA_led (e : ArcEvent) (s : State) : (qAddA e s).led = s.led := by unfold qAddA; split <;> rfl
@[simp] theorem qAddA_rx (e : ArcEvent) (s : State) : (qAddA e s).rx = s.rx := by unfold qAddA; split <;> rfl
@[simp] theorem qAddA_tilt (e : ArcEvent) (s : State) : (qAddA e s).tilt = s.tilt := by unfold qAddA; split <;> rfl
@[simp] theorem qAddA_deviceId (e : ArcEvent) (s : State) : (qAddA e s).deviceId = s.deviceId := by unfold qAddA; split <;> rfl
@[simp] theorem qAddA_active (e : ArcEvent) (s : State) : (qAddA e s).active = s.active := by unfold qAddA; split <;> rfl
@[simp] theorem qAddA_isMonome (e : ArcEvent) (s : State) : (qAddA e s).isMonome = s.isMonome := by unfold qAddA; split <;> rfl
@[simp] theorem qAddA_probing (e : ArcEvent) (s : State) : (qAddA e s).probing = s.probing := by unfold qAddA; split <;> rfl
@[simp] theorem qAddA_configured (e : ArcEvent) (s : State) : (qAddA e s).configured = s.configured := by unfold qAddA; split <;> rfl
@[simp] theorem qAddA_isGrid (e : ArcEvent) (s : State) : (qAddA e s).isGrid = s.isGrid := by unfold qAddA; split <;> rfl
@[simp] theorem qAddA_gridDirty (e : ArcEvent) (s : State) : (qAddA e s).gridDirty = s.gridDirty := by unfold qAddA; split <;> rfl
@[simp] theorem qAddA_arcDirty (e : ArcEvent) (s : State) : (qAddA e s).arcDirty = s.arcDirty := by unfold qAddA; split <;> rfl
@[simp] theorem qAddA_rows (e : ArcEvent) (s : State) : (qAddA e s).rows = s.rows := by unfold qAddA; split <;> rfl
@[simp] theorem qAddA_columns (e : ArcEvent) (s : State) : (qAddA e s).columns = s.columns := by unfold qAddA; split <;> rfl
@[simp] theorem qAddA_encoders (e : ArcEvent) (s : State) : (qAddA e s).encoders = s.encoders := by unfold qAddA; split <;> rfl
@[simp] theorem qAddA_rotation (e : ArcEvent) (s : State) : (qAddA e s).rotation = s.rotation := by unfold qAddA; split <;> rfl
@[simp] theorem qAddA_job (e : ArcEvent) (s : State) : (qAddA e s).job = s.job := by unfold qAddA; split <;> rfl
@[simp] theorem qAddA_port (e : ArcEvent) (s : State) : (qAddA e s).port = s.port := by unfold qAddA; split <;> rfl
@[simp] theorem qAddA_hostResp (e : ArcEvent) (s : State) : (qAddA e s).hostResp = s.hostResp := by unfold qAddA; split <;> rfl
@[simp] theorem qAddA_prodResp (e : ArcEvent) (s : State) : (qAddA e s).prodResp = s.prodResp := by unfold qAddA; split <;> rfl
@[simp] theorem qAddA_rxs (e : ArcEvent) (s : State) : (qAddA e s).rxs = s.rxs := by unfold qAddA; split <;> rfl
@[simp] theorem qAddA_txs (e : ArcEvent) (s : State) : (qAddA e s).txs = s.txs := by unfold qAddA; split <;> rfl
@[simp] theorem qAddA_txPlan (e : ArcEvent) (s : State) : (qAddA e s).txPlan = s.txPlan := by unfold qAddA; split <;> rfl
@[simp] theorem qAddA_txSeq (e : ArcEvent) (s : State) : (qAddA e s).txSeq = s.txSeq := by unfold qAddA; split <;> rfl
@[simp] theorem qAddA_schedule (e : ArcEvent) (s : State) : (qAddA e s).schedule = s.schedule := by unfold qAddA; split <;> rfl
@[simp] theorem qAddA_hostProg (e : ArcEvent) (s : State) : (qAddA e s).hostProg = s.hostProg := by unfold qAddA; split <;> rfl
@[simp] theorem qAddA_prodProg (e : ArcEvent) (s : State) : (qAddA e s).prodProg = s.prodProg := by unfold qAddA; split <;> rfl
@[simp] theorem qAddA_cfg (e : ArcEvent) (s : State) : (qAddA e s).cfg = s.cfg := by unfold qAddA; split <;> rfl

/-! ### emitOnly: the fields it never writes -/

@[simp] theorem emitOnly_gq (bs : List Byte) (s : State) : (emitOnly bs s).gq = s.gq := by unfold emitOnly; split <;> rfl
@[simp] theorem emitOnly_aq (bs : List Byte) (s : State) : (emitOnly bs s).aq = s.aq := by unfold emitOnly; split <;> rfl
@[simp] theorem emitOnly_led (bs : List Byte) (s : State) : (emitOnly bs s).led = s.led := by unfold emitOnly; split <;> rfl
@[simp] theorem emitOnly_tilt (bs : List Byte) (s : State) : (emitOnly bs s).tilt = s.tilt := by unfold emitOnly; split <;> rfl
@[simp] theorem emitOnly_deviceId (bs : List Byte) (s : State) : (emitOnly bs s).deviceId = s.deviceId := by unfold emitOnly; split <;> rfl
@[simp] theorem emitOnly_isMonome (bs : List Byte) (s : State) : (emitOnly bs s).isMonome = s.isMonome := by unfold emitOnly; split <;> rfl
@[simp] theorem emitOnly_configured (bs : List Byte) (s : State) : (emitOnly bs s).configured = s.configured := by unfold emitOnly; split <;> rfl
@[simp] theorem emitOnly_isGrid (bs : List Byte) (s : State) : (emitOnly bs s).isGrid = s.isGrid := by unfold emitOnly; split <;> rfl
@[simp] theorem emitOnly_gridDirty (bs : List Byte) (s : State) : (emitOnly bs s).gridDirty = s.gridDirty := by unfold emitOnly; split <;> rfl
@[simp] theorem emitOnly_arcDirty (bs : List Byte) (s : State) : (emitOnly bs s).arcDirty = s.arcDirty := by unfold emitOnly; split <;> rfl
@[simp] theorem emitOnly_rows (bs : List Byte) (s : State) : (emitOnly bs s).rows = s.rows := by unfold emitOnly; split <;> rfl
@[simp] theorem emitOnly_columns (bs : List Byte) (s : State) : (emitOnly bs s).columns = s.columns := by unfold emitOnly; split <;> rfl
@[simp] theorem emitOnly_encoders (bs : List Byte) (s : State) : (emitOnly bs s).encoders = s.encoders := by unfold emitOnly; split <;> rfl
@[simp] theorem emitOnly_rotation (bs : List Byte) (s : State) : (emitOnly bs s).rotation = s.rotation := by unfold emitOnly; split <;> rfl
@[simp] theorem emitOnly_job (bs : List Byte) (s : State) : (emitOnly bs s).job = s.job := by unfold emitOnly; split <;> rfl
@[simp] theorem emitOnly_port (bs : List Byte) (s : State) : (emitOnly bs s).port = s.port := by unfold emitOnly; split <;> rfl
@[simp] theorem emitOnly_hostResp (bs : List Byte) (s : State) : (emitOnly bs s).hostResp = s.hostResp := by unfold emitOnly; split <;> rfl
@[simp] theorem emitOnly_prodResp (bs : List Byte) (s : State) : (emitOnly bs s).prodResp = s.prodResp := by unfold emitOnly; split <;> rfl
@[simp] theorem emitOnly_rxs (bs : List Byte) (s : State) : (emitOnly bs s).rxs = s.rxs := by unfold emitOnly; split <;> rfl
@[simp] theorem emitOnly_schedule (bs : List Byte) (s : State) : (emitOnly bs s).schedule = s.schedule := by unfold emitOnly; split <;> rfl
@[simp] theorem emitOnly_hostProg (bs : List Byte) (s : State) : (emitOnly bs s).hostProg = s.hostProg := by unfold emitOnly; split <;> rfl
@[simp] theorem emitOnly_prodProg (bs : List Byte) (s : State) : (emitOnly bs s).prodProg = s.prodProg := by unfold emitOnly; split <;> rfl
@[simp] theorem emitOnly_trace (bs : List Byte) (s : State) : (emitOnly bs s).trace = s.trace := by unfold emitOnly; split <;> rfl
@[simp] theorem emitOnly_cfg (bs : List Byte) (s : State) : (emitOnly bs s).cfg = s.cfg := by unfold emitOnly; split <;> rfl

/-! ### What the case-split updates write -/

theorem raise_ne_transport {c : Condition} (h : c ≠ .transportError) (s : State) :
    raise c s = respond s ⟨c.code, 0, 0, 0⟩ := by
  cases c <;> first | rfl | exact absurd rfl h

theorem raiseWith_transport (d : Byte) (s : State) :
    raiseWith .transportError d s = respond (dropConnection s) ⟨0x05, 0, 0, d⟩ := rfl

theorem raise_transport (s : State) :
    raise .transportError s = respond (dropConnection s) ⟨0x05, 0, 0, 0⟩ := rfl

theorem qAddG_gq (e : GridEvent) (s : State) :
    (qAddG e s).gq = if s.gq.count = qcap then s.gq else s.gq.push GridEvent.zero e := by
  unfold qAddG; split <;> rfl

theorem qAddG_trace (e : GridEvent) (s : State) :
    (qAddG e s).trace =
      if s.gq.count = qcap then s.trace ++ [.capacityDrop .grid] else s.trace := by
  unfold qAddG; split <;> rfl

theorem qAddA_aq (e : ArcEvent) (s : State) :
    (qAddA e s).aq = if s.aq.count = qcap then s.aq else s.aq.push ArcEvent.zero e := by
  unfold qAddA; split <;> rfl

theorem qAddA_trace (e : ArcEvent) (s : State) :
    (qAddA e s).trace =
      if s.aq.count = qcap then s.trace ++ [.capacityDrop .arc] else s.trace := by
  unfold qAddA; split <;> rfl

theorem emitOnly_txs (bs : List Byte) (s : State) :
    (emitOnly bs s).txs = s.txs ++ bytesSent (nextOutcome s) bs := by
  unfold emitOnly; split <;> rfl

end Sys2Proof.Machine
end

