-- ==== Sys2Proof/Laws/Ops.lean ====
section
/-! SUPPORT. One lemma per shared operation: everything it can answer. -/

namespace Sys2Proof.Machine

/-! ### Outcomes -/

theorem andThen_eq_next {o : Result} {f : State → Result} {t : State} :
    andThen o f = .next t ↔ ∃ s, o = .next s ∧ f s = .next t := by
  cases o <;> simp [andThen]

theorem andThen_eq_fault {o : Result} {f : State → Result} {r : Fault} :
    andThen o f = .fault r ↔ o = .fault r ∨ ∃ s, o = .next s ∧ f s = .fault r := by
  cases o <;> simp [andThen]

@[simp] theorem andThen_next (s : State) (f : State → Result) : andThen (.next s) f = f s := rfl

/-! ### The ring buffers (rules R100 to R103, R110) -/

@[simp] theorem Ring.contents_length {α : Type} (z : α) (q : Ring α) :
    (q.contents z).length = q.count := by
  simp [Ring.contents]

@[simp] theorem Ring.push_head {α : Type} [DecidableEq α] (z : α) (q : Ring α) (e : α) :
    (q.push z e).head = q.head := rfl
@[simp] theorem Ring.push_count {α : Type} [DecidableEq α] (z : α) (q : Ring α) (e : α) :
    (q.push z e).count = q.count + 1 := rfl
@[simp] theorem Ring.pop_head {α : Type} (q : Ring α) : q.pop.head = (q.head + 1) % qcap := rfl
@[simp] theorem Ring.pop_count {α : Type} (q : Ring α) : q.pop.count = q.count - 1 := rfl
@[simp] theorem Ring.pop_buf {α : Type} (q : Ring α) : q.pop.buf = q.buf := rfl

/-- The slot of an accepted add lies in the space, whatever head and count are (rule R42). -/
theorem tail_lt (h c : Nat) : (h + c) % qcap < qcap := Nat.mod_lt _ (by decide)

/-- Two occupied slots, or an occupied slot and the tail, have different addresses. -/
theorem slot_ne {h k c : Nat} (hk : k < c) (hc : c < qcap) :
    (h + c) % qcap ≠ (h + k) % qcap := by
  simp only [qcap] at *
  omega

theorem Ring.push_wf {α : Type} [DecidableEq α] {z : α} {q : Ring α} (e : α)
    (h : Memory.wf z qcap q.buf = true) : Memory.wf z qcap (q.push z e).buf = true :=
  Memory.write_wf h (tail_lt _ _)

/-- An accepted add appends the event (rules R100, R101). -/
theorem Ring.contents_push {α : Type} [DecidableEq α] {z : α} {q : Ring α} (e : α)
    (hw : Memory.wf z qcap q.buf = true) (hc : q.count < qcap) :
    (q.push z e).contents z = q.contents z ++ [e] := by
  simp only [Ring.contents, Ring.push, List.range_succ, List.map_append, List.map_cons,
    List.map_nil]
  congr 1
  · apply List.map_congr_left
    intro k hk
    rw [Memory.read_write hw, if_neg (slot_ne (List.mem_range.mp hk) hc)]
  · rw [Memory.read_write hw, if_pos rfl]

/-- A read of a non-empty queue takes the oldest event (rules R102, R103). -/
theorem Ring.contents_pop {α : Type} {z : α} {q : Ring α} (hh : q.head < qcap)
    (hc : q.count ≠ 0) : q.contents z = q.front z :: q.pop.contents z := by
  obtain ⟨c, hc⟩ := Nat.exists_eq_succ_of_ne_zero hc
  simp only [Ring.contents, Ring.front, Ring.pop, hc, List.range_succ_eq_map, List.map_cons,
    List.map_map]
  congr 1
  · simp only [qcap] at *
    rw [Nat.add_zero, Nat.mod_eq_of_lt hh]
  · apply List.map_congr_left
    intro k _
    simp only [Function.comp, qcap, Nat.mod_add_mod]
    rw [show q.head + 1 + k = q.head + k.succ by omega]

/-! ### The outbound stream (rules R44, R150, R224) -/

/-- ENV's next answer depends on nothing but its plan and the count of emissions. -/
theorem nextOutcome_congr {s t : State} (hp : s.txPlan = t.txPlan) (hs : s.txSeq = t.txSeq) :
    nextOutcome s = nextOutcome t := by
  simp only [nextOutcome, hp, hs]

theorem emitThen_ok {sent : Bool} {bs : List Byte} {s : State} {go : State → State}
    (h : nextOutcome s = .ok) : emitThen sent bs s go = go (txEmit bs s) := if_pos h

theorem emitThen_fail {sent : Bool} {bs : List Byte} {s : State} {go : State → State} {k : Nat}
    (h : nextOutcome s = .fail k) :
    emitThen sent bs s go =
      raiseWith .transportError (bitByte sent) { txEmit bs s with job := .idle } :=
  if_neg (by simp [h])

theorem emitOnly_ok {bs : List Byte} {s : State} (h : nextOutcome s = .ok) :
    emitOnly bs s = txEmit bs s := if_pos h

theorem emitOnly_fail {bs : List Byte} {s : State} {k : Nat} (h : nextOutcome s = .fail k) :
    emitOnly bs s = dropConnection (txEmit bs s) := if_neg (by simp [h])

/-- An emission inside an operation either goes on or raises TransportError. -/
theorem emitThen_cases (sent : Bool) (bs : List Byte) (s : State) (go : State → State) :
    (nextOutcome s = .ok ∧ emitThen sent bs s go = go (txEmit bs s)) ∨
      ((∃ k, nextOutcome s = .fail k) ∧
        emitThen sent bs s go =
          raiseWith .transportError (bitByte sent) { txEmit bs s with job := .idle }) := by
  cases h : nextOutcome s with
  | ok => exact .inl ⟨rfl, emitThen_ok h⟩
  | fail k => exact .inr ⟨⟨k, rfl⟩, emitThen_fail h⟩

/-! ### The profile's tables (rule R76) -/

theorem rxEntry_mem {p : Profile} {b : Byte} {e : RxEntry} (h : p.rxEntry b = some e) :
    e ∈ p.rxTable ∧ e.cmd = b := by
  unfold Profile.rxEntry at h
  exact ⟨List.mem_of_find?_eq_some h, by simpa using List.find?_some h⟩

theorem plen_le_maxPlen {p : Profile} {e : RxEntry} (h : e ∈ p.rxTable) : e.plen ≤ p.maxPlen := by
  have key : ∀ l : List RxEntry, e ∈ l → e.plen ≤ l.foldr (fun e m => max e.plen m) 0 := by
    intro l
    induction l with
    | nil => intro h; cases h
    | cons a l ih =>
      intro h
      rcases List.mem_cons.mp h with rfl | h
      · exact le_max_left _ _
      · exact le_trans (ih h) (le_max_right _ _)
  exact key _ h

theorem Profile.wf_plen {p : Profile} (hp : p.wf = true) {e : RxEntry} (h : e ∈ p.rxTable) :
    e.plen = p.rxPlen e.kind := by
  simp only [Profile.wf, Bool.and_eq_true, List.all_eq_true] at hp
  simpa using hp.1.1.1.1.1.1.1.2 e h

/-! ### Dispatch (rule R123) -/

theorem dispatchFrame_infoId (id : List Byte) (s : State) :
    dispatchFrame .infoId id s = infoIdFrame id s := by
  match id with
  | [] => rfl
  | [_] => rfl
  | [_, _] => rfl
  | _ :: _ :: _ :: _ => rfl

theorem dispatchFrame_skip (n : Nat) (pl : List Byte) (s : State) :
    dispatchFrame (.skip n) pl s = .next s := by
  match pl with
  | [] => rfl
  | [_] => rfl
  | [_, _] => rfl
  | _ :: _ :: _ :: _ => rfl

/-- A payload of its kind's length is dispatched without a stop. -/
theorem dispatchFrame_next {s : State} {k : RxKind} {pl : List Byte}
    (h : pl.length = s.cfg.profile.rxPlen k) : ∃ t, dispatchFrame k pl s = .next t := by
  cases k with
  | infoId => exact ⟨_, by rw [dispatchFrame_infoId, infoIdFrame]; exact if_pos h⟩
  | skip n => exact ⟨s, dispatchFrame_skip n pl s⟩
  | rot =>
    match pl, h with
    | [a], _ => exact ⟨_, rfl⟩
  | key v =>
    match pl, h with
    | [a, b], _ => exact ⟨_, rfl⟩
  | enc =>
    match pl, h with
    | [a, b], _ => exact ⟨_, rfl⟩
  | infoCaps =>
    match pl, h with
    | [a, b], _ => exact ⟨_, rfl⟩
  | size =>
    match pl, h with
    | [a, b], _ => exact ⟨_, rfl⟩

/-- Everything a dispatched frame can do (rules R124 to R130). -/
theorem dispatchFrame_cases {k : RxKind} {pl : List Byte} {s t : State}
    (h : dispatchFrame k pl s = .next t) :
    (∃ v xp yp, k = .key v ∧ pl = [xp, yp] ∧ t = keyFrame v xp yp s) ∨
      (∃ n d, k = .enc ∧ pl = [n, d] ∧ t = encFrame n d s) ∨
      (∃ c0 c1, k = .infoCaps ∧ pl = [c0, c1] ∧ t = infoCapsFrame c0 c1 s) ∨
      (k = .infoId ∧ pl.length = s.cfg.profile.idLen ∧
        t = infoSuccess { s with deviceId := Memory.writeList 0 s.deviceId 0 pl }) ∨
      (∃ s0 s1, k = .size ∧ pl = [s0, s1] ∧ t = sizeFrame s0 s1 s) ∨
      (∃ r, k = .rot ∧ pl = [r] ∧ t = rotFrame r s) ∨
      (∃ n, k = .skip n ∧ t = s) := by
  unfold dispatchFrame at h
  split at h
  · cases h; exact .inl ⟨_, _, _, rfl, rfl, rfl⟩
  · cases h; exact .inr (.inl ⟨_, _, rfl, rfl, rfl⟩)
  · cases h; exact .inr (.inr (.inl ⟨_, _, rfl, rfl, rfl⟩))
  · unfold infoIdFrame at h
    split at h
    · rename_i hl
      cases h; exact .inr (.inr (.inr (.inl ⟨rfl, hl, rfl⟩)))
    · cases h
  · cases h; exact .inr (.inr (.inr (.inr (.inl ⟨_, _, rfl, rfl, rfl⟩))))
  · cases h; exact .inr (.inr (.inr (.inr (.inr (.inl ⟨_, rfl, rfl, rfl⟩)))))
  · cases h; exact .inr (.inr (.inr (.inr (.inr (.inr ⟨_, rfl, rfl⟩)))))
  · cases h

/-! ### Coordinates (rules R54, R58, R59) -/

/-- Inside the logical rectangle the mapping lands in the physical one (half of rule R61). -/
theorem rotFwd_lt {d : RotDir} {r : BitVec 2} {w h x y : Nat} (hx : x < (logicalRect r w h).1)
    (hy : y < (logicalRect r w h).2) :
    (rotFwd d r w h x y).1 < w ∧ (rotFwd d r w h x y).2 < h := by
  have hr : r = 0#2 ∨ r = 1#2 ∨ r = 2#2 ∨ r = 3#2 := by
    clear hx hy; revert r; decide
  rcases hr with rfl | rfl | rfl | rfl <;> cases d <;>
    simp [rotFwd, turn, logicalRect] at * <;> omega

/-- A cell of the rectangle has an index below the rectangle's size (rule R54). -/
theorem ledIndexGrid_lt {w h x y : Nat} (hx : x < w) (hy : y < h) :
    ledIndexGrid w x y < w * h := by
  unfold ledIndexGrid
  calc y * w + x < y * w + w := by omega
    _ = (y + 1) * w := by ring
    _ ≤ h * w := Nat.mul_le_mul_right _ hy
    _ = w * h := Nat.mul_comm _ _

/-- Under the dimension invariant SETGLED's cell exists (rule R54). -/
theorem gridCell_lt {s : State} {x y : Byte} (hd : s.rows.toNat * s.columns.toNat ≤ ledn)
    (hr : inLogicalRect s x y = true) : gridCell s x y < ledn := by
  simp only [inLogicalRect, Bool.and_eq_true, decide_eq_true_eq] at hr
  have := rotFwd_lt (d := s.cfg.rotDir) hr.1 hr.2
  exact lt_of_lt_of_le (ledIndexGrid_lt this.1 this.2) (by rwa [Nat.mul_comm])

end Sys2Proof.Machine
end

