-- ==== Sys2Proof/Laws/PerInstr.lean ====
section
/-! SUPPORT. The laws made per instruction: every well-formed instruction has an encoding (rules R71,
R77, R78). -/

namespace Sys2Proof.Laws

/-- An instruction that is well-formed under a profile has an encoding under it. -/
def EncodesWhenWellFormed.Statement (i : Instr) : Prop :=
  ∀ p : Profile, i.wellFormed p = true → (encode p i).isSome = true

/-- A received frame of a kind the RX table has is encoded. -/
theorem encodeRx_isSome {p : Profile} {k : RxKind} (payload : List Byte)
    (h : p.hasKind k = true) : (encodeRx p k payload).isSome = true := by
  simpa [encodeRx, Profile.hasKind] using h

theorem EncodesWhenWellFormed.addg (x y : Byte) (pressed : Bool) :
    EncodesWhenWellFormed.Statement (.addg x y pressed) := fun _ _ => rfl

theorem EncodesWhenWellFormed.adda (index delta : Byte) :
    EncodesWhenWellFormed.Statement (.adda index delta) := fun _ _ => rfl

theorem EncodesWhenWellFormed.gavail :
    EncodesWhenWellFormed.Statement .gavail := fun _ _ => rfl

theorem EncodesWhenWellFormed.aavail :
    EncodesWhenWellFormed.Statement .aavail := fun _ _ => rfl

theorem EncodesWhenWellFormed.rdg :
    EncodesWhenWellFormed.Statement .rdg := fun _ _ => rfl

theorem EncodesWhenWellFormed.rda :
    EncodesWhenWellFormed.Statement .rda := fun _ _ => rfl

theorem EncodesWhenWellFormed.poll :
    EncodesWhenWellFormed.Statement .poll := fun _ _ => rfl

theorem EncodesWhenWellFormed.rxbyte :
    EncodesWhenWellFormed.Statement .rxbyte := fun _ _ => rfl

theorem EncodesWhenWellFormed.setgled (x y level : Byte) :
    EncodesWhenWellFormed.Statement (.setgled x y level) := fun _ _ => rfl

theorem EncodesWhenWellFormed.clrgled (x y : Byte) :
    EncodesWhenWellFormed.Statement (.clrgled x y) := fun _ _ => rfl

theorem EncodesWhenWellFormed.setaled (ring led level : Byte) :
    EncodesWhenWellFormed.Statement (.setaled ring led level) := fun _ _ => rfl

theorem EncodesWhenWellFormed.clraled (ring led : Byte) :
    EncodesWhenWellFormed.Statement (.clraled ring led) := fun _ _ => rfl

theorem EncodesWhenWellFormed.setall (level : Byte) :
    EncodesWhenWellFormed.Statement (.setall level) := fun _ _ => rfl

theorem EncodesWhenWellFormed.clrall :
    EncodesWhenWellFormed.Statement .clrall := fun _ _ => rfl

theorem EncodesWhenWellFormed.clrring (ring : Byte) :
    EncodesWhenWellFormed.Statement (.clrring ring) := fun _ _ => rfl

theorem EncodesWhenWellFormed.refreshg :
    EncodesWhenWellFormed.Statement .refreshg := fun _ _ => rfl

theorem EncodesWhenWellFormed.refresha :
    EncodesWhenWellFormed.Statement .refresha := fun _ _ => rfl

theorem EncodesWhenWellFormed.refresh :
    EncodesWhenWellFormed.Statement .refresh := fun _ _ => rfl

theorem EncodesWhenWellFormed.sendsize :
    EncodesWhenWellFormed.Statement .sendsize := fun _ _ => rfl

theorem EncodesWhenWellFormed.sendrot :
    EncodesWhenWellFormed.Statement .sendrot := fun _ _ => rfl

theorem EncodesWhenWellFormed.init :
    EncodesWhenWellFormed.Statement .init := fun _ _ => rfl

theorem EncodesWhenWellFormed.getinfo :
    EncodesWhenWellFormed.Statement .getinfo := fun _ _ => rfl

theorem EncodesWhenWellFormed.setupg (rows columns : Byte) :
    EncodesWhenWellFormed.Statement (.setupg rows columns) := fun _ _ => rfl

theorem EncodesWhenWellFormed.setupa (encoders : Byte) :
    EncodesWhenWellFormed.Statement (.setupa encoders) := fun _ _ => rfl

theorem EncodesWhenWellFormed.setrot (r : Byte) :
    EncodesWhenWellFormed.Statement (.setrot r) := fun _ _ => rfl

theorem EncodesWhenWellFormed.rdreg (n : Byte) :
    EncodesWhenWellFormed.Statement (.rdreg n) := fun _ _ => rfl

theorem EncodesWhenWellFormed.settilt (sensor : Byte) (active : Bool) :
    EncodesWhenWellFormed.Statement (.settilt sensor active) := fun _ _ => rfl

theorem EncodesWhenWellFormed.sendtilt (sensor : Byte) (x y z : Half) :
    EncodesWhenWellFormed.Statement (.sendtilt sensor x y z) := fun _ _ => rfl

theorem EncodesWhenWellFormed.rxInfoCaps (c0 c1 : Byte) :
    EncodesWhenWellFormed.Statement (.rxInfoCaps c0 c1) := fun _ h => encodeRx_isSome _ h

theorem EncodesWhenWellFormed.rxInfoId (id : List Byte) :
    EncodesWhenWellFormed.Statement (.rxInfoId id) :=
  fun _ h => encodeRx_isSome _ (Bool.and_eq_true _ _ ▸ h).1

theorem EncodesWhenWellFormed.rxSize (s0 s1 : Byte) :
    EncodesWhenWellFormed.Statement (.rxSize s0 s1) := fun _ h => encodeRx_isSome _ h

theorem EncodesWhenWellFormed.rxRot (r : Byte) :
    EncodesWhenWellFormed.Statement (.rxRot r) := fun _ h => encodeRx_isSome _ h

theorem EncodesWhenWellFormed.rxKeyup (xp yp : Byte) :
    EncodesWhenWellFormed.Statement (.rxKeyup xp yp) := fun _ h => encodeRx_isSome _ h

theorem EncodesWhenWellFormed.rxKeydn (xp yp : Byte) :
    EncodesWhenWellFormed.Statement (.rxKeydn xp yp) := fun _ h => encodeRx_isSome _ h

theorem EncodesWhenWellFormed.rxEnc (n d : Byte) :
    EncodesWhenWellFormed.Statement (.rxEnc n d) := fun _ h => encodeRx_isSome _ h

theorem EncodesWhenWellFormed.txSize (p0 p1 : Byte) :
    EncodesWhenWellFormed.Statement (.txSize p0 p1) := fun _ _ => rfl

theorem EncodesWhenWellFormed.txRot (r : Byte) :
    EncodesWhenWellFormed.Statement (.txRot r) := fun _ _ => rfl

theorem EncodesWhenWellFormed.txGmap (xo yo : Byte) (levels : List Byte) :
    EncodesWhenWellFormed.Statement (.txGmap xo yo levels) := fun _ _ => rfl

theorem EncodesWhenWellFormed.txAmap (ring : Byte) (levels : List Byte) :
    EncodesWhenWellFormed.Statement (.txAmap ring levels) := fun _ _ => rfl

theorem EncodesWhenWellFormed.txTilt (sensor : Byte) (x y z : Half) :
    EncodesWhenWellFormed.Statement (.txTilt sensor x y z) := fun _ _ => rfl

theorem EncodesWhenWellFormed.txQuery :
    EncodesWhenWellFormed.Statement .txQuery := fun _ _ => rfl

end Sys2Proof.Laws
end

