-- ==== Sys2Proof/Laws/Step.lean ====
section
/-! SUPPORT. What one turn of an agent can do, said once: the step, issuing a command word, the
framer, and the turns of the compound operations. -/

namespace Sys2Proof.Machine

/-! ### The step (rules R52, R63) -/

theorem step_eq_takeTurn {s : State} (h : s.cfg.profile.wf = true) : step s = takeTurn s := by
  simp only [step, stepOnce, h, if_true]

theorem step_refuses_profile {s : State} (h : s.cfg.profile.wf = false) :
    step s = .refused .profileNotWellFormed := by
  simp only [step, stepOnce, h, Bool.false_eq_true, if_false]

/-- A step that goes on is a turn of one of the three agents. -/
theorem step_cases {s t : State} (h : step s = .next t) :
    s.cfg.profile.wf = true ∧
      ((s.schedule = [] ∧ hostTurn s = .next t) ∨
        (∃ rest, s.schedule = .host :: rest ∧ hostTurn { s with schedule := rest } = .next t) ∨
        (∃ rest, s.schedule = .prod :: rest ∧ prodTurn { s with schedule := rest } = .next t) ∨
        (∃ b rest, s.schedule = .byteArrive b :: rest ∧
          t = byteArrive b { s with schedule := rest }) ∨
        (∃ rest, s.schedule = .transportDown :: rest ∧
          t = dropConnection { s with schedule := rest })) := by
  cases hw : s.cfg.profile.wf with
  | false => rw [step_refuses_profile hw] at h; cases h
  | true =>
    rw [step_eq_takeTurn hw] at h
    refine ⟨rfl, ?_⟩
    unfold takeTurn at h
    split at h
    · exact .inl ⟨‹_›, h⟩
    · exact .inr (.inl ⟨_, ‹_›, h⟩)
    · exact .inr (.inr (.inl ⟨_, ‹_›, h⟩))
    · cases h; exact .inr (.inr (.inr (.inl ⟨_, _, ‹_›, rfl⟩)))
    · cases h; exact .inr (.inr (.inr (.inr ⟨_, ‹_›, rfl⟩)))

/-! ### Issuing a command word (rules R72, R73) -/

theorem issue_ok {a : Agent} {cw : Command} {s : State} {i : Instr}
    (h : decodeCommand cw = .ok i) (hp : portAllows s.cfg a i = true) :
    issue a cw s = exec i s := by
  simp only [issue, h, hp, if_true]

theorem issue_refused {a : Agent} {cw : Command} {s : State} {i : Instr}
    (h : decodeCommand cw = .ok i) (hp : portAllows s.cfg a i = false) :
    issue a cw s = .refused (.portNotAllowed a (opField cw)) := by
  simp only [issue, h, hp, Bool.false_eq_true, if_false]

theorem issue_illegal {a : Agent} {cw : Command} {s : State} {e : DecodeError}
    (h : decodeCommand cw = .error e) : issue a cw s = .next (raise .illegalOp s) := by
  simp only [issue, h]

/-- Everything issuing a command word can do where it goes on. -/
theorem issue_cases {a : Agent} {cw : Command} {s t : State} (h : issue a cw s = .next t) :
    (∃ i, decodeCommand cw = .ok i ∧ portAllows s.cfg a i = true ∧ exec i s = .next t) ∨
      (∃ e, decodeCommand cw = .error e ∧ t = raise .illegalOp s) := by
  unfold issue at h
  split at h
  · cases h; exact .inr ⟨_, ‹_›, rfl⟩
  · split at h
    · exact .inl ⟨_, ‹_›, ‹_›, h⟩
    · cases h

/-- Everything HOST's turn can do where it goes on (rules R51, R52, R250). -/
theorem hostServed_cases {s t : State} (h : hostServed s = .next t) :
    (s.job = .idle ∧ s.hostProg = [] ∧ t = s) ∨
      (∃ cw rest, s.job = .idle ∧ s.hostProg = cw :: rest ∧
        issue .host cw { s with hostProg := rest } = .next t) ∨
      (∃ k n, s.job = .poll k n ∧ pollTurn k n s = .next t) ∨
      (∃ w h' quad thenArc, s.job = .gridFrames w h' quad thenArc ∧
        gridTurn true w h' quad thenArc s = .next t) ∨
      (∃ rings ring, s.job = .arcFrames rings ring ∧ arcTurn true rings ring s = .next t) := by
  unfold hostServed at h
  split at h
  · split at h
    · cases h; exact .inl ⟨‹_›, ‹_›, rfl⟩
    · exact .inr (.inl ⟨_, _, ‹_›, ‹_›, h⟩)
  · rename_i hne
    unfold jobTurn at h
    split at h
    · exact (hne ‹_›).elim
    · exact .inr (.inr (.inl ⟨_, _, ‹_›, h⟩))
    · exact .inr (.inr (.inr (.inl ⟨_, _, _, _, ‹_›, h⟩)))
    · exact .inr (.inr (.inr (.inr ⟨_, _, ‹_›, h⟩)))

/-- Everything PROD's turn can do where it goes on. -/
theorem prodServed_cases {s t : State} (h : prodServed s = .next t) :
    (s.prodProg = [] ∧ t = s) ∨
      (∃ cw rest, s.prodProg = cw :: rest ∧
        issue .prod cw { s with prodProg := rest } = .next t) := by
  unfold prodServed at h
  split at h
  · cases h; exact .inl ⟨‹_›, rfl⟩
  · exact .inr ⟨_, _, ‹_›, h⟩

/-! ### The framer (rule R122) -/

/-- Everything a byte in `IDLE` can do where it goes on. -/
theorem rxStart_cases {b : Byte} {s t : State} (h : rxStart b s = .next t) :
    (s.cfg.profile.rxEntry b = none ∧ t = label (.protoUnknown b) s) ∨
      (∃ e, s.cfg.profile.rxEntry b = some e ∧ e.plen = 0 ∧
        dispatchFrame e.kind [] s = .next t) ∨
      (∃ e, s.cfg.profile.rxEntry b = some e ∧ e.plen ≠ 0 ∧
        t = { s with
          rx := { s.rx with state := .collect, cmd := b, need := e.plen, cnt := 0 } }) := by
  unfold rxStart at h
  split at h
  · cases h; exact .inl ⟨‹_›, rfl⟩
  · split at h
    · exact .inr (.inl ⟨_, ‹_›, ‹_›, h⟩)
    · cases h; exact .inr (.inr ⟨_, ‹_›, ‹_›, rfl⟩)

/-- Everything a byte in `COLLECT` can do where it goes on. -/
theorem rxCollect_cases {b : Byte} {s t : State} (h : rxCollect b s = .next t) :
    s.rx.cnt < s.cfg.profile.maxPlen ∧
      ((s.rx.cnt + 1 ≠ s.rx.need ∧ t = storePayload b s) ∨
        (s.rx.cnt + 1 = s.rx.need ∧ ∃ e u, s.cfg.profile.rxEntry s.rx.cmd = some e ∧
          dispatchFrame e.kind
            (Memory.readList 0 (storePayload b s).rx.buf 0 s.rx.need) (storePayload b s)
            = .next u ∧ t = framerIdle u)) := by
  unfold rxCollect at h
  split at h
  · refine ⟨‹_›, ?_⟩
    dsimp only at h
    split at h
    · refine .inr ⟨‹_›, ?_⟩
      unfold rxComplete at h
      split at h
      · cases h
      · obtain ⟨u, h1, h2⟩ := andThen_eq_next.1 h
        cases h2
        exact ⟨_, u, ‹_›, h1, rfl⟩
    · cases h
      exact .inl ⟨‹_›, rfl⟩
  · cases h

/-- Everything one turn of POLL's loop can do where it goes on (rule R121). -/
theorem pollTurn_cases {k n : Nat} {s t : State} (h : pollTurn k n s = .next t) :
    t = done { s with job := .idle } 0 0 (bitByte (n != 0)) ∨
      (n < k ∧ rxEn s = true ∧ ∃ b rest u, s.rxs = b :: rest ∧
        rxStep b { s with rxs := rest } = .next u ∧ t = { u with job := .poll k (n + 1) }) := by
  unfold pollTurn at h
  split at h
  · cases h; exact .inl rfl
  · rename_i b rest hr
    split at h
    · rename_i hc
      obtain ⟨u, h1, h2⟩ := andThen_eq_next.1 h
      cases h2
      exact .inr ⟨hc.1, hc.2, b, rest, u, hr, h1, rfl⟩
    · cases h; exact .inl rfl

/-! ### The refresh loops (rules R159, R160) -/

/-- Everything one turn of the grid loop can do where it goes on. -/
theorem gridTurn_cases {sent : Bool} {w h quad : Nat} {thenArc : Bool} {s t : State}
    (he : gridTurn sent w h quad thenArc s = .next t) :
    w * h ≤ ledn ∧
      ((quad < quads w * quads h ∧
        t = emitThen sent (frameBytes s .gmap (gmapPayload s w h quad)) s fun u =>
          if quad + 1 < quads w * quads h then
            { u with job := .gridFrames w h (quad + 1) thenArc }
          else gridDone thenArc u) ∨
        (quads w * quads h ≤ quad ∧ t = gridDone thenArc s)) := by
  unfold gridTurn at he
  split at he
  · refine ⟨‹_›, ?_⟩
    split at he
    · cases he; exact .inl ⟨‹_›, rfl⟩
    · cases he; exact .inr ⟨Nat.le_of_not_lt ‹_›, rfl⟩
  · cases he

/-- Everything one turn of the arc loop can do where it goes on. -/
theorem arcTurn_cases {sent : Bool} {rings ring : Nat} {s t : State}
    (he : arcTurn sent rings ring s = .next t) :
    (ring < rings ∧ ledIndexArc ring ringLeds ≤ ledn ∧
      t = emitThen sent (frameBytes s .amap (amapPayload s ring)) s fun u =>
        if ring + 1 < rings then { u with job := .arcFrames rings (ring + 1) } else arcDone u) ∨
      (rings ≤ ring ∧ t = arcDone s) := by
  unfold arcTurn at he
  split at he
  · split at he
    · cases he; exact .inl ⟨‹_›, ‹_›, rfl⟩
    · cases he
  · cases he; exact .inr ⟨Nat.le_of_not_lt ‹_›, rfl⟩

end Sys2Proof.Machine
end

