-- ==== Sys2Proof/Tests/Slice0.lean ====
section
/-! SUPPORT. Tests on fixed values: well-formedness, decoding of words written out from the tables of
file 30, and one step of each operation. Expected values are the spec's: the id of a vector of file 95
where there is one, else the rule they are worked out from. -/

namespace Sys2Proof.Tests

open Sys2Proof Sys2Proof.Machine

/-! ### Helpers -/

/-- The state an outcome goes on with; a stop gives the reset state with a label no run has first. -/
def after : Result → State
  | .next s => s
  | _ => { State.reset with trace := [.protoUnknown 0xEE, .protoUnknown 0xEE] }

/-- The response HOST has after one instruction. -/
def answer (i : Instr) (s : State) : Option Response := (after (exec i s)).hostResp

/-- A configured grid of `rows` by `columns`, active; ENV takes every emission. -/
def grid (rows columns : Byte) : State :=
  { State.reset with
    active := true, configured := true, isGrid := true, rows := rows, columns := columns
    txPlan := List.replicate 8 .ok }

/-- A configured arc, active; ENV takes every emission. -/
def arc (encoders : Byte) : State :=
  { State.reset with
    active := true, configured := true, encoders := encoders, txPlan := List.replicate 8 .ok }

/-- Sensor 0 reports (vector T1). -/
def tiltOn : State := { grid 8 16 with tilt := [(0, ⟨true, false, 0, 0, 0⟩)] }

/-- A profile with a frame to skip that has no payload (rule R130). -/
def skipProfile : Profile := { refProfile with rxTable := [⟨0x7F, .skip 0, 0⟩, ⟨0x0A, .rot, 1⟩] }

/-! ### Well-formedness: an ill-formed term for each check -/

theorem test_wf_kind_missing : (Instr.rxKeydn 1 2).wellFormed skipProfile = false := by decide
theorem test_wf_keyup_missing : (Instr.rxKeyup 1 2).wellFormed skipProfile = false := by decide
theorem test_wf_enc_missing : (Instr.rxEnc 1 2).wellFormed skipProfile = false := by decide
theorem test_wf_caps_missing : (Instr.rxInfoCaps 1 2).wellFormed skipProfile = false := by decide
theorem test_wf_size_missing : (Instr.rxSize 1 2).wellFormed skipProfile = false := by decide
theorem test_wf_rot_missing :
    (Instr.rxRot 1).wellFormed { refProfile with rxTable := [] } = false := by decide
theorem test_wf_id_missing :
    (Instr.rxInfoId (List.replicate 32 0)).wellFormed skipProfile = false := by decide
theorem test_wf_id_short : (Instr.rxInfoId [1, 2, 3]).wellFormed refProfile = false := by decide
theorem test_wf_tx_rot : (Instr.txRot 4).wellFormed refProfile = false := by decide
theorem test_wf_gmap_xo :
    (Instr.txGmap 4 8 (List.replicate 64 0)).wellFormed refProfile = false := by decide
theorem test_wf_gmap_yo :
    (Instr.txGmap 8 4 (List.replicate 64 0)).wellFormed refProfile = false := by decide
theorem test_wf_gmap_short : (Instr.txGmap 0 0 [1]).wellFormed refProfile = false := by decide
theorem test_wf_amap_ring :
    (Instr.txAmap 4 (List.replicate 64 0)).wellFormed refProfile = false := by decide
theorem test_wf_amap_short : (Instr.txAmap 0 [1]).wellFormed refProfile = false := by decide
theorem test_wf_tilt_sensor : (Instr.txTilt 4 0 0 0).wellFormed refProfile = false := by decide
theorem test_wf_profile : refProfile.wf = true ∧ refProfile.txDistinct = true := by decide
theorem test_wf_profile_twice :
    ({ refProfile with rxTable := [⟨1, .rot, 1⟩, ⟨1, .size, 2⟩] } : Profile).wf = false := by decide
theorem test_wf_profile_plen :
    ({ refProfile with rxTable := [⟨1, .rot, 2⟩] } : Profile).wf = false := by decide
theorem test_wf_profile_tx_size :
    ({ refProfile with txSize := ⟨0x06, 3⟩ } : Profile).wf = false := by decide
theorem test_wf_profile_tx_rot :
    ({ refProfile with txRot := ⟨0x0A, 2⟩ } : Profile).wf = false := by decide
theorem test_wf_profile_tx_gmap :
    ({ refProfile with txGmap := ⟨0x1A, 34⟩ } : Profile).wf = false := by decide
theorem test_wf_profile_tx_amap :
    ({ refProfile with txAmap := ⟨0x92, 33⟩ } : Profile).wf = false := by decide
theorem test_wf_profile_tx_tilt :
    ({ refProfile with txTilt := ⟨0x81, 6⟩ } : Profile).wf = false := by decide
theorem test_wf_profile_query :
    ({ refProfile with querySeq := [] } : Profile).wf = false := by decide
theorem test_wf_profile_pack :
    ({ refProfile with packLen := 32, txGmap := ⟨0x1A, 34⟩, txAmap := ⟨0x92, 33⟩ } : Profile).wf
      = false := by decide
theorem test_wf_tx_same_cmd :
    ({ refProfile with txRot := ⟨0x06, 1⟩ } : Profile).txDistinct = false := by decide
theorem test_wf_query_cmd :
    ({ refProfile with querySeq := [0x06] } : Profile).txDistinct = false := by decide

/-! ### Decoding: a word for every constructor -/

/-- Vectors Q8, Q9, Q14, Q2, Q11, RX1, RX26, E1. -/
theorem test_decode_queue :
    decodeCommand 0x10FFFFFF00000000 = .ok (.addg 0xFF 0xFF true)
    ∧ decodeCommand 0x1005060200000000 = .ok (.addg 5 6 false)
    ∧ decodeCommand 0x1101FF0000000000 = .ok (.adda 1 0xFF)
    ∧ decodeCommand 0x1200DEADBEEF1234 = .ok .gavail
    ∧ decodeCommand 0x1300000000000000 = .ok .aavail
    ∧ decodeCommand 0x1400000000000000 = .ok .rdg
    ∧ decodeCommand 0x1500000000000000 = .ok .rda
    ∧ decodeCommand 0x2000000000000000 = .ok .poll
    ∧ decodeCommand 0x2100000000000000 = .ok .rxbyte := by decide

/-- Vectors E1, E7, E10, E11, E14, E16, E19; rules R153, R155, R157, R160. -/
theorem test_decode_encode_path :
    decodeCommand 0x300304C800000000 = .ok (.setgled 3 4 200)
    ∧ decodeCommand 0x3103040000000000 = .ok (.clrgled 3 4)
    ∧ decodeCommand 0x32013F0900000000 = .ok (.setaled 1 63 9)
    ∧ decodeCommand 0x33013F0000000000 = .ok (.clraled 1 63)
    ∧ decodeCommand 0x340F000000000000 = .ok (.setall 15)
    ∧ decodeCommand 0x3500000000000000 = .ok .clrall
    ∧ decodeCommand 0x3603000000000000 = .ok (.clrring 3)
    ∧ decodeCommand 0x3700000000000000 = .ok .refreshg
    ∧ decodeCommand 0x3800000000000000 = .ok .refresha
    ∧ decodeCommand 0x3900000000000000 = .ok .refresh
    ∧ decodeCommand 0x3A00000000000000 = .ok .sendsize
    ∧ decodeCommand 0x3B00000000000000 = .ok .sendrot := by decide

/-- Vectors K12, K10, K1, K5, K8, K9, T1, T2, T4. -/
theorem test_decode_controller :
    decodeCommand 0x4000000000000000 = .ok .init
    ∧ decodeCommand 0x4100000000000000 = .ok .getinfo
    ∧ decodeCommand 0x4208100000000000 = .ok (.setupg 8 16)
    ∧ decodeCommand 0x4302000000000000 = .ok (.setupa 2)
    ∧ decodeCommand 0x4404000000000000 = .ok (.setrot 4)
    ∧ decodeCommand 0x4507000000000000 = .ok (.rdreg 7)
    ∧ decodeCommand 0x5000010000000000 = .ok (.settilt 0 true)
    ∧ decodeCommand 0x5001020000000000 = .ok (.settilt 1 false)
    ∧ decodeCommand 0x51000001FFFE012C = .ok (.sendtilt 0 1 (-2) 300)
    ∧ decodeCommand 0x510080007FFF0000 = .ok (.sendtilt 0 (-32768) 32767 0) := by decide

/-- Vector Q15 and the edges of the map of rule R72. -/
theorem test_decode_illegal :
    decodeCommand 0x1600000000000000 = .error (.illegalOp 0x16)
    ∧ decodeCommand 0x0F00000000000000 = .error (.illegalOp 0x0F)
    ∧ decodeCommand 0x5200000000000000 = .error (.illegalOp 0x52)
    ∧ decodeCommand 0x3C00000000000000 = .error (.illegalOp 0x3C) := by decide

/-- Vectors RX23, RX24, RX18, RX16, RX3, RX1, RX8, RX6. -/
theorem test_decode_rx :
    decodeRx refProfile [0x00, 0x02, 0x01] = .ok (.rxInfoCaps 2 1)
    ∧ decodeRx refProfile (0x01 :: [0x6D, 0x31, 0x32, 0x33] ++ List.replicate 28 0)
        = .ok (.rxInfoId ([0x6D, 0x31, 0x32, 0x33] ++ List.replicate 28 0))
    ∧ decodeRx refProfile [0x03, 0x10, 0x08] = .ok (.rxSize 16 8)
    ∧ decodeRx refProfile [0x0A, 0x02] = .ok (.rxRot 2)
    ∧ decodeRx refProfile [0x20, 0x0F, 0x07] = .ok (.rxKeyup 15 7)
    ∧ decodeRx refProfile [0x21, 0x03, 0x04] = .ok (.rxKeydn 3 4)
    ∧ decodeRx refProfile [0x50, 0x01, 0xFF] = .ok (.rxEnc 1 0xFF)
    ∧ decodeRx refProfile [0xFF] = .error (.unknownCommand 0xFF)
    ∧ decodeRx refProfile [0x21, 0x03] = .error (.badLength 0x21)
    ∧ decodeRx skipProfile [0x7F] = .error (.skippedFrame 0x7F) := by decide

/-- Vectors E16, E19, E11, T2, K10; rule R160's example. -/
theorem test_decode_tx :
    decodeTx refProfile [0x06, 0x10, 0x08] = .ok (.txSize 16 8)
    ∧ decodeTx refProfile [0x0A, 0x03] = .ok (.txRot 3)
    ∧ decodeTx refProfile (0x1A :: 0x08 :: 0x00 :: 0x0F :: List.replicate 63 0)
        = .ok (.txGmap 8 0 (0x0F :: List.replicate 63 0))
    ∧ decodeTx refProfile (0x92 :: 0x00 :: [0, 0, 0, 0, 0, 7] ++ List.replicate 58 0)
        = .ok (.txAmap 0 ([0, 0, 0, 0, 0, 7] ++ List.replicate 58 0))
    ∧ decodeTx refProfile [0x81, 0x00, 0x01, 0x00, 0xFE, 0xFF, 0x2C, 0x01]
        = .ok (.txTilt 0 1 (-2) 300)
    ∧ decodeTx refProfile [0x00, 0x01] = .ok .txQuery
    ∧ decodeTx refProfile [0x0A, 0x04] = .error (.badLayout 0x0A) := by decide

/-- Rule R47: with `BE` the high byte of an axis is first. -/
theorem test_decode_tx_be :
    decodeTx { refProfile with tiltOrder := .be } [0x81, 3, 0, 1, 0xFF, 0xFE, 0x01, 0x2C]
      = .ok (.txTilt 3 1 (-2) 300) := by decide

/-! ### The event queue -/

/-- Vector Q4: slot (30 + 25) mod 50. -/
theorem test_addg_wraps :
    (after (exec (.addg 9 9 true) { State.reset with gq := ⟨[], 30, 25⟩ })).gq
      = ⟨[(5, ⟨9, 9, true⟩)], 30, 26⟩ := by decide
/-- Vector Q3: the new event is dropped and the producer answered OK. -/
theorem test_addg_full :
    let t := after (exec (.addg 50 150 false) { State.reset with gq := ⟨[(3, ⟨1, 1, true⟩)], 0, 50⟩ })
    t.gq = ⟨[(3, ⟨1, 1, true⟩)], 0, 50⟩ ∧ t.hostResp = some ⟨0, 0, 0, 0⟩
      ∧ t.trace = [.capacityDrop .grid] := by decide
/-- Vector Q10. -/
theorem test_adda_unchecked :
    (after (exec (.adda 200 0x80) State.reset)).aq = ⟨[(0, ⟨200, 0x80⟩)], 0, 1⟩ := by decide
/-- Vector Q1, and S1 step 3. -/
theorem test_gavail :
    answer .gavail State.reset = some ⟨0, 0, 0, 0⟩
    ∧ answer .gavail { State.reset with gq := ⟨[], 0, 1⟩ } = some ⟨0, 0, 0, 1⟩ := by decide
/-- Vector Q12: the queues are independent. -/
theorem test_aavail :
    answer .aavail { State.reset with gq := ⟨[], 0, 1⟩ } = some ⟨0, 0, 0, 0⟩
    ∧ answer .aavail { State.reset with aq := ⟨[], 0, 1⟩ } = some ⟨0, 0, 0, 1⟩ := by decide
/-- Vector Q5, its first read. -/
theorem test_rdg_wraps :
    let s := { State.reset with gq := ⟨[(0, ⟨3, 4, false⟩), (49, ⟨1, 2, true⟩)], 49, 2⟩ }
    answer .rdg s = some ⟨0, 1, 2, 1⟩ ∧ (after (exec .rdg s)).gq.head = 0 := by decide
/-- Vector Q2. -/
theorem test_rdg_empty : answer .rdg State.reset = some ⟨0x01, 0, 0, 0⟩ := by decide
/-- Vector Q9. -/
theorem test_rda :
    let s := { State.reset with aq := ⟨[(0, ⟨1, 0xFF⟩)], 0, 1⟩ }
    answer .rda s = some ⟨0, 1, 0xFF, 0⟩ ∧ (after (exec .rda s)).aq.head = 1 := by decide

/-! ### The decode path -/

/-- Vector RX11. -/
theorem test_poll_disabled :
    let t := after (exec .poll { State.reset with rxs := [0x21, 3, 4] })
    t.hostResp = some ⟨0x04, 0, 0, 0⟩ ∧ t.rxs = [0x21, 3, 4] := by decide
/-- Vector RX13: the turn that takes the last byte of a key frame. -/
theorem test_poll_turn_completes :
    let t := after (pollTurn 1 0
      { grid 8 16 with rxs := [0x04], rx := ⟨.collect, 0x21, 2, 1, [(0, 3)]⟩ })
    t.gq = ⟨[(0, ⟨3, 4, true⟩)], 0, 1⟩ ∧ t.rx.state = .idle ∧ t.rxs = [] := by decide
/-- Vector RX26 and the example of rule R120. -/
theorem test_rxbyte :
    let t := after (exec .rxbyte { grid 8 16 with port := .prod, rxs := [0x21] })
    t.rx = ⟨.collect, 0x21, 2, 0, []⟩ ∧ t.prodResp = some ⟨0, 0, 0, 1⟩ ∧ t.rxs = [] := by decide
/-- Vector RX14: a payload byte is no frame start. -/
theorem test_rxbyte_payload :
    let t := after (exec .rxbyte
      { grid 8 16 with rxs := [0x21], rx := ⟨.collect, 0x21, 2, 1, [(0, 3)]⟩ })
    t.trace = [.protoMalformed 0x21] ∧ t.gq.count = 0 ∧ t.rx.state = .idle := by decide

/-! ### The frames received -/

/-- Vector RX23. -/
theorem test_info_caps :
    let t := after (exec (.rxInfoCaps 2 1) { State.reset with probing := true })
    t.isMonome = true ∧ t.active = true ∧ t.probing = false ∧ t.rows = 0 := by decide
/-- Vector RX24. -/
theorem test_info_id :
    let t := after (exec (.rxInfoId ([0x6D, 0x31] ++ List.replicate 30 0)) (grid 8 16))
    t.deviceId = [(0, 0x6D), (1, 0x31)] ∧ t.isMonome = true := by decide
/-- Vectors RX18, RX20. -/
theorem test_size :
    let t := after (exec (.rxSize 16 8) { State.reset with probing := true })
    t.columns = 16 ∧ t.rows = 8 ∧ t.active = false ∧ t.probing = true
      ∧ (after (exec (.rxSize 0x20 0x10) (grid 8 16))).columns = 16 := by decide
/-- Vectors RX21, RX22. -/
theorem test_size_arc :
    (after (exec (.rxSize 4 0x63) (arc 2))).encoders = 4
    ∧ (after (exec (.rxSize 5 0) (arc 2))).encoders = 2 := by decide
/-- Vectors RX16, RX17. -/
theorem test_rot :
    (after (exec (.rxRot 2) State.reset)).rotation = 2
    ∧ (after (exec (.rxRot 0x5A) State.reset)).rotation = 0 := by decide
/-- Vector RX3. -/
theorem test_keyup :
    (after (exec (.rxKeyup 15 7) (grid 8 16))).gq = ⟨[(0, ⟨15, 7, false⟩)], 0, 1⟩ := by decide
/-- Vector RX2. -/
theorem test_keydn_rotated :
    (after (exec (.rxKeydn 11 3) { grid 8 16 with rotation := 1 })).gq.buf
      = [(0, ⟨3, 4, true⟩)] := by decide
/-- Vectors RX4, RX5, RX10. -/
theorem test_keydn_malformed :
    (after (exec (.rxKeydn 16 0) (grid 8 16))).gq.count = 0
    ∧ (after (exec (.rxKeydn 0 8) (grid 8 16))).gq.count = 0
    ∧ (after (exec (.rxKeydn 0 0) (arc 2))).gq.count = 0 := by decide
/-- Vectors RX8, RX9, RX7. -/
theorem test_enc :
    (after (exec (.rxEnc 1 0xFF) (arc 2))).aq = ⟨[(0, ⟨1, 0xFF⟩)], 0, 1⟩
    ∧ (after (exec (.rxEnc 2 1) (arc 2))).aq.count = 0
    ∧ (after (exec (.rxEnc 0 1) (grid 8 16))).aq.count = 0 := by decide

/-! ### LedFrame -/

/-- Vectors E1 and M2. -/
theorem test_setgled_rotated :
    let t := after (exec (.setgled 3 4 200) { grid 8 16 with rotation := 1 })
    t.led = [(59, 200)] ∧ t.gridDirty = true := by decide
/-- Vectors E2, E4. -/
theorem test_setgled_rejected :
    answer (.setgled 8 0 1) { grid 8 16 with rotation := 1 } = some ⟨0x03, 0, 0, 0⟩
    ∧ answer (.setgled 0 0 1) (arc 2) = some ⟨0x02, 0, 0, 0⟩ := by decide
/-- Vector M4: rotation 3; the example of rule R153. -/
theorem test_clrgled :
    let t := after (exec (.clrgled 3 4) { grid 8 16 with rotation := 3, led := [(68, 9)] })
    t.led = [] ∧ t.gridDirty = true := by decide
/-- Vectors E7, E9. -/
theorem test_setaled :
    (after (exec (.setaled 1 63 9) (arc 2))).led = [(127, 9)]
    ∧ (after (exec (.setaled 1 63 9) (arc 2))).arcDirty = true
    ∧ answer (.setaled 0 64 1) (arc 2) = some ⟨0x03, 0, 0, 0⟩ := by decide
/-- Rule R155's example; vector E8's range. -/
theorem test_clraled :
    (after (exec (.clraled 1 63) { arc 2 with led := [(127, 9)] })).led = []
    ∧ answer (.clraled 2 0) (arc 2) = some ⟨0x03, 0, 0, 0⟩ := by decide
/-- Vector E6. -/
theorem test_setall :
    let t := after (exec (.setall 15) (grid 8 16))
    ledRead t 0 = 15 ∧ ledRead t 255 = 15 ∧ t.gridDirty = true ∧ t.arcDirty = false := by
  decide +kernel
/-- Vector E5. -/
theorem test_setall_unconfigured :
    answer (.setall 15) State.reset = some ⟨0x02, 0, 0, 0⟩ := by decide
/-- Rule R157's example. -/
theorem test_clrall :
    let t := after (exec .clrall { arc 2 with led := [(7, 1), (255, 2)] })
    t.led = [] ∧ t.arcDirty = true ∧ t.gridDirty = false := by decide +kernel
/-- Vector E10. -/
theorem test_clrring :
    let t := after (exec (.clrring 3) { arc 4 with led := [(191, 1), (192, 2), (255, 3)] })
    t.led = [(191, 1)] ∧ t.arcDirty = true := by decide

/-! ### Refresh and the senders -/

/-- Vector E11. -/
theorem test_refreshg :
    let t := after (exec .refreshg { grid 8 8 with led := [(0, 15)], gridDirty := true })
    t.txs = [0x1A, 0x00, 0x00, 0x0F] ++ List.replicate 63 0
      ∧ t.gridDirty = false ∧ t.hostResp = some ⟨0, 0, 0, 1⟩ := by decide
/-- Vector E20: a failure after ten bytes. -/
theorem test_refreshg_fails :
    let t := after (exec .refreshg
      { grid 8 8 with led := [(0, 15)], gridDirty := true, txPlan := [.fail 10] })
    t.txs = [0x1A, 0x00, 0x00, 0x0F, 0, 0, 0, 0, 0, 0] ∧ t.gridDirty = true ∧ t.active = false
      ∧ t.hostResp = some ⟨0x05, 0, 0, 0⟩ := by decide
/-- Rules R74, R159: the last of two quads fails after 1 byte, and `d0[0]` tells of the first. -/
theorem test_refresh_second_frame_fails :
    let t := after (step { grid 8 16 with
      gridDirty := true, job := .gridFrames 16 8 1 false, txPlan := [.fail 1] })
    t.txs = [0x1A] ∧ t.gridDirty = true ∧ t.active = false ∧ t.job = .idle
      ∧ t.hostResp = some ⟨0x05, 0, 0, 1⟩ := by decide
/-- Vector RX25. -/
theorem test_keydn_full :
    let t := after (exec (.rxKeydn 0 0) { grid 8 16 with gq := ⟨[], 3, 50⟩ })
    t.gq = ⟨[], 3, 50⟩ ∧ t.trace = [.capacityDrop .grid] := by decide
/-- Rule R160's example. -/
theorem test_refresha :
    let t := after (exec .refresha { arc 1 with led := [(5, 7)], arcDirty := true })
    t.txs = [0x92, 0x00, 0, 0, 0, 0, 0, 0x07] ++ List.replicate 58 0 ∧ t.arcDirty = false := by
  decide
/-- Vector E12, its first step: quad (0, 0), and quad (8, 0) is to come. -/
theorem test_refresh_two_quads :
    let t := after (exec .refresh { grid 8 16 with led := [(8, 1)], gridDirty := true })
    t.txs = [0x1A, 0x00, 0x00] ++ List.replicate 64 0
      ∧ t.job = .gridFrames 16 8 1 true ∧ t.gridDirty = true := by decide
/-- Vectors E14, E15. -/
theorem test_refresh_gates :
    answer .refresh (grid 8 16) = some ⟨0, 0, 0, 0⟩
    ∧ answer .refresh { grid 8 16 with active := false, gridDirty := true }
        = some ⟨0x04, 0, 0, 0⟩ := by decide
/-- Vectors E16, E17. -/
theorem test_sendsize :
    (after (exec .sendsize (grid 8 16))).txs = [0x06, 0x10, 0x08]
    ∧ (after (exec .sendsize (arc 2))).txs = [0x06, 0x02, 0x00] := by decide
/-- Vector E18. -/
theorem test_sendsize_mode : answer .sendsize State.reset = some ⟨0x02, 0, 0, 0⟩ := by decide
/-- Vector E19. -/
theorem test_sendrot :
    (after (exec .sendrot { grid 8 16 with rotation := 3 })).txs = [0x0A, 0x03] := by decide

/-! ### The controller -/

/-- Vector K12, with a dirty grid before. -/
theorem test_init :
    let t := after (exec .init { grid 8 16 with led := [(1, 1)], gridDirty := true, rxs := [9] })
    t.led = [] ∧ statusView t = 0 ∧ t.rows = 0 ∧ t.rxs = [9] := by decide
/-- Vector K10. -/
theorem test_getinfo :
    let t := after (exec .getinfo { State.reset with txPlan := [.ok] })
    t.txs = [0x00, 0x01] ∧ statusView t = 0x10 ∧ t.hostResp = some ⟨0, 0, 0, 1⟩ := by decide
/-- Vector K11. -/
theorem test_getinfo_fails :
    let t := after (exec .getinfo { State.reset with txPlan := [.fail 1], probing := true })
    t.txs = [0x00] ∧ t.probing = false ∧ t.hostResp = some ⟨0x05, 0, 0, 0⟩ := by decide
/-- Vector K1. -/
theorem test_setupg :
    let t := after (exec (.setupg 8 16) State.reset)
    t.rows = 8 ∧ t.columns = 16 ∧ statusView t = 0x0D := by decide
/-- Vectors K2, K3, K4. -/
theorem test_setupg_range :
    answer (.setupg 0 16) State.reset = some ⟨0x03, 0, 0, 0⟩
    ∧ answer (.setupg 16 17) State.reset = some ⟨0x03, 0, 0, 0⟩
    ∧ answer (.setupg 16 16) State.reset = some ⟨0, 0, 0, 0⟩ := by decide
/-- Vectors K5, K6. -/
theorem test_setupa :
    statusView (after (exec (.setupa 2) State.reset)) = 0x09
    ∧ answer (.setupg 8 8) (arc 2) = some ⟨0x02, 0, 0, 0⟩
    ∧ answer (.setupa 5) State.reset = some ⟨0x03, 0, 0, 0⟩ := by decide
/-- Vector K8. -/
theorem test_setrot :
    (after (exec (.setrot 1) State.reset)).rotation = 1
    ∧ answer (.setrot 4) State.reset = some ⟨0x03, 0, 0, 0⟩ := by decide
/-- Vectors K9, Q13. -/
theorem test_rdreg :
    answer (.rdreg 3) (grid 8 16) = some ⟨0, 0, 0, 16⟩
    ∧ answer (.rdreg 2) (grid 8 16) = some ⟨0, 0, 0, 8⟩
    ∧ answer (.rdreg 7) (grid 8 16) = some ⟨0x03, 0, 0, 0⟩
    ∧ answer (.rdreg 1) { State.reset with gq := ⟨[], 0, 50⟩ } = some ⟨0, 0, 0, 0x03⟩ := by decide
/-- Rule R29: the last byte of `deviceID` is register 0x2F, and 0x30 is none. -/
theorem test_rdreg_devid :
    answer (.rdreg 0x2F) { State.reset with deviceId := [(31, 0x5A)] } = some ⟨0, 0, 0, 0x5A⟩
    ∧ answer (.rdreg 0x30) State.reset = some ⟨0x03, 0, 0, 0⟩ := by decide

/-! ### The tilt tracker -/

/-- Vectors T1, T7. -/
theorem test_settilt :
    tiltActView (after (exec (.settilt 0 true) (grid 8 16))) = 0x01
    ∧ answer (.settilt 4 true) (grid 8 16) = some ⟨0x03, 0, 0, 0⟩ := by decide
/-- Vectors T2, T4 (the extremes). -/
theorem test_sendtilt :
    (after (exec (.sendtilt 0 1 (-2) 300) tiltOn)).txs
      = [0x81, 0x00, 0x01, 0x00, 0xFE, 0xFF, 0x2C, 0x01]
    ∧ (after (exec (.sendtilt 0 (-32768) 32767 0) tiltOn)).txs
      = [0x81, 0x00, 0x00, 0x80, 0xFF, 0x7F, 0x00, 0x00] := by decide
/-- Vector T11: the cache is written although the emission fails. -/
theorem test_sendtilt_fails :
    let t := after (exec (.sendtilt 0 7 7 7) { tiltOn with txPlan := [.fail 0] })
    t.tilt = [(0, ⟨true, true, 7, 7, 7⟩)] ∧ t.active = false
      ∧ t.hostResp = some ⟨0x05, 0, 0, 0⟩ := by decide

/-! ### The frames sent (rule R78; a failure, rules R44 and R224) -/

theorem test_tx_size : (after (exec (.txSize 16 8) (grid 8 16))).txs = [0x06, 0x10, 0x08] := by
  decide
theorem test_tx_rot_fails :
    let t := after (exec (.txRot 3) { grid 8 16 with txPlan := [.fail 1] })
    t.txs = [0x0A] ∧ t.active = false := by decide
theorem test_tx_gmap :
    (after (exec (.txGmap 8 0 (List.replicate 64 7)) (grid 8 16))).txs
      = [0x1A, 0x08, 0x00] ++ List.replicate 64 7 := by decide
theorem test_tx_amap :
    (after (exec (.txAmap 3 (List.replicate 64 7)) (arc 4))).txs
      = [0x92, 0x03] ++ List.replicate 64 7 := by decide
theorem test_tx_tilt_be :
    (after (exec (.txTilt 0 1 (-2) 300)
      { tiltOn with
        cfg := { Params.default with profile := { refProfile with tiltOrder := .be } } })).txs
      = [0x81, 0x00, 0x00, 0x01, 0xFF, 0xFE, 0x01, 0x2C] := by decide
theorem test_tx_query : (after (exec .txQuery (grid 8 16))).txs = [0x00, 0x01] := by decide

/-! ### The step -/

/-- Vector K13. -/
theorem test_step_down :
    let t := after (step { grid 8 16 with
      schedule := [.transportDown], gq := ⟨[], 0, 3⟩, rx := ⟨.collect, 0x21, 2, 1, [(0, 3)]⟩ })
    t.active = false ∧ t.rx.state = .idle ∧ t.gq.count = 3 := by decide
/-- Vector Q15 through the step. -/
theorem test_step_illegal :
    let t := after (step { State.reset with hostProg := [0x1600000000000000] })
    t.hostResp.map Response.word = some 0x06000000 ∧ t.hostProg = [] := by decide
/-- Item U8: PROD may not read. -/
theorem test_step_port :
    (match step { State.reset with schedule := [.prod], prodProg := [0x1400000000000000] } with
      | .refused (.portNotAllowed .prod op) => op == 0x14
      | _ => false) = true := by decide
/-- Rule R72's row ADDG, its low 64 bits as the opcode table numbers them, placed and run. -/
theorem test_fetch_addg :
    (after (step (State.reset.withFetchWord 64 0x1003040100000000))).gq.buf
      = [(0, ⟨3, 4, true⟩)] := by decide

/-! ### Witnesses: states and operands that meet the hypotheses of the obligations -/

/-- The biggest grid, in use: a queue that wraps, a lit cell, a frame half received. -/
def busyGrid : State :=
  { grid 16 16 with
    gq := ⟨[(0, ⟨3, 4, false⟩), (49, ⟨1, 2, true⟩)], 49, 2⟩
    led := [(0, 15), (255, 9)], gridDirty := true
    rx := ⟨.collect, 0x21, 2, 1, [(0, 3)]⟩, rxs := [4, 0x21] }

/-- The biggest arc, in use. -/
def busyArc : State :=
  { arc 4 with
    aq := ⟨[(49, ⟨3, 0x80⟩)], 49, 1⟩, led := [(5, 7), (255, 9)], arcDirty := true }

/-- A grid in the last frame of its refresh. -/
def lastQuad : State := { busyGrid with job := .gridFrames 16 16 3 false }

/-- An arc in the last frame of its refresh. -/
def lastRing : State := { busyArc with job := .arcFrames 4 3 }

theorem witness_reset_inv : State.reset.Inv :=
  inv_of_check (by decide) (by decide) (by decide) (by decide) (by decide) (by decide)
theorem witness_busyGrid_inv : busyGrid.Inv :=
  inv_of_check (by decide) (by decide) (by decide) (by decide) (by decide) (by decide)
theorem witness_busyArc_inv : busyArc.Inv :=
  inv_of_check (by decide) (by decide) (by decide) (by decide) (by decide) (by decide)
theorem witness_lastQuad_inv : lastQuad.Inv :=
  inv_of_check (by decide) (by decide) (by decide) (by decide) (by decide) (by decide)
theorem witness_lastRing_inv : lastRing.Inv :=
  inv_of_check (by decide) (by decide) (by decide) (by decide) (by decide) (by decide)

theorem witness_DecodeInvertsEncode :
    refProfile.wf = true ∧ refProfile.txDistinct = true
    ∧ (Instr.txTilt 3 1 (-2) 300).wellFormed refProfile = true
    ∧ (Instr.txAmap 3 (List.replicate 64 9)).wellFormed refProfile = true
    ∧ (Instr.txGmap 248 0 (List.replicate 64 9)).wellFormed refProfile = true
    ∧ (Instr.rxInfoId (List.replicate 32 9)).wellFormed refProfile = true
    ∧ (Instr.addg 1 2 true).wellFormed refProfile = true := by decide

/-- Every value of the map is some word's `op`, and the values beside its ends are in no row. -/
theorem witness_OpMapIsExact :
    (∀ op ∈ opCodes, opField (op ++ (0 : BitVec 56)) = op)
    ∧ opField 0x5200000000000000 ∉ opCodes ∧ opField 0x0F00000000000000 ∉ opCodes := by decide

/-- One pair of different words for each format. -/
theorem witness_UnusedBitsAreIgnored :
    (opField 0x1200000000000000 = opField 0x12FFFFFFFFFFFFFF
      ∧ opField 0x1200000000000000 ∈ ([0x12, 0x13] : List Byte))
    ∧ (opField 0x3407000000000000 = opField 0x3407FFFFFFFFFFFF
      ∧ aField 0x3407000000000000 = aField 0x3407FFFFFFFFFFFF)
    ∧ (opField 0x3107080000000000 = opField 0x310708FFFFFFFFFF
      ∧ aField 0x3107080000000000 = aField 0x310708FFFFFFFFFF
      ∧ bField 0x3107080000000000 = bField 0x310708FFFFFFFFFF)
    ∧ (opField 0x5003010000000000 = opField 0x5003FFFFFFFFFFFF
      ∧ aField 0x5003010000000000 = aField 0x5003FFFFFFFFFFFF
      ∧ bitZero (bField 0x5003010000000000) = bitZero (bField 0x5003FFFFFFFFFFFF))
    ∧ (opField 0x3007080900000000 = opField 0x30070809FFFFFFFF
      ∧ aField 0x3007080900000000 = aField 0x30070809FFFFFFFF
      ∧ bField 0x3007080900000000 = bField 0x30070809FFFFFFFF
      ∧ cField 0x3007080900000000 = cField 0x30070809FFFFFFFF)
    ∧ (opField 0x1007080100000000 = opField 0x100708FFFFFFFFFF
      ∧ aField 0x1007080100000000 = aField 0x100708FFFFFFFFFF
      ∧ bField 0x1007080100000000 = bField 0x100708FFFFFFFFFF
      ∧ bitZero (cField 0x1007080100000000) = bitZero (cField 0x100708FFFFFFFFFF)) := by decide

/-- HOST with an empty schedule, HOST scheduled, PROD scheduled. -/
theorem witness_StepRunsDecodedInstruction :
    busyGrid.cfg.profile.wf = true ∧ busyGrid.job = .idle ∧ busyGrid.schedule = []
    ∧ decodeCommand 0x1400000000000000 = .ok .rdg ∧ portAllows busyGrid.cfg .host .rdg = true
    ∧ { busyGrid with hostProg := [0x1400000000000000] }.hostProg = [0x1400000000000000]
    ∧ { busyGrid with schedule := [.host] }.schedule = [.host]
    ∧ decodeCommand 0x2100000000000000 = .ok .rxbyte ∧ portAllows lastQuad.cfg .prod .rxbyte = true
    ∧ { lastQuad with schedule := [.prod] }.schedule = [.prod] := by decide

/-- The four clauses' words; the second parameter set has `AUTONOMOUS_RX` false. -/
theorem witness_StepAnswersIllegalOps :
    State.reset.cfg.profile.wf = true ∧ State.reset.job = .idle
    ∧ opField 0x5200000000000000 ∉ opCodes ∧ opField 0x2100000000000000 = 0x21
    ∧ opField 0x5100000000000000 ∈ opCodes
    ∧ opField 0x5100000000000000 ∉ ([0x10, 0x11, 0x21] : List Byte)
    ∧ { Params.default with autonomousRx := false }.autonomousRx = false
    ∧ { Params.default with autonomousRx := false }.profile.wf = true := by decide

theorem witness_StepRunsReceivedFrame :
    let s := { busyGrid with schedule := [.host], job := .poll 1 0 }
    s.cfg.profile.wf = true ∧ Memory.wf 0 s.cfg.profile.maxPlen s.rx.buf = true
    ∧ s.schedule = [.host] ∧ s.job = .poll 1 0 ∧ rxEn s = true ∧ s.rxs = [4, 0x21]
    ∧ s.rx.state = .collect ∧ s.rx.cnt + 1 = s.rx.need
    ∧ decodeRx s.cfg.profile (s.rx.cmd :: (Memory.readList 0 s.rx.buf 0 s.rx.cnt ++ [4]))
        = .ok (.rxKeydn 3 4) := by decide

/-- Both jobs, each at its last frame; the invariants are `witness_lastQuad_inv` and
`witness_lastRing_inv`. -/
theorem witness_StepSendsRefreshFrame :
    (lastQuad.Inv ∧ lastQuad.schedule = [] ∧ lastQuad.job = .gridFrames 16 16 3 false)
    ∧ (lastRing.Inv ∧ lastRing.schedule = [] ∧ lastRing.job = .arcFrames 4 3) :=
  ⟨⟨witness_lastQuad_inv, rfl, rfl⟩, witness_lastRing_inv, rfl, rfl⟩

theorem witness_TransportDownDropsConnection :
    busyGrid.cfg.profile.wf = true
    ∧ { busyGrid with schedule := [.transportDown] }.schedule = [.transportDown] := by decide

theorem witness_BytesArriveInOrder :
    busyGrid.cfg.profile.wf = true
    ∧ { busyGrid with schedule := [.byteArrive 0xFF] }.schedule = [.byteArrive 0xFF]
    ∧ busyGrid.schedule = [] ∧ busyGrid.job = .idle ∧ busyGrid.hostProg = [] := by decide

theorem witness_ResetHoldsSpecValues : exec .init busyGrid = .next (after (exec .init busyGrid)) :=
  rfl

/-- A step that transmits. -/
theorem witness_StepKeepsInvariant :
    lastQuad.Inv ∧ step lastQuad = .next (after (step lastQuad)) :=
  ⟨witness_lastQuad_inv, rfl⟩

theorem witness_InvariantStepsNeverFault : lastRing.Inv := witness_lastRing_inv

theorem witness_ParametersAreFixed : step busyArc = .next (after (step busyArc)) := rfl

/-- A step that keeps the mode, and one in which HOST issues INIT. -/
theorem witness_ModeIsFixedWhileConfigured :
    busyGrid.configured = true ∧ step busyGrid = .next (after (step busyGrid))
    ∧ (let s := { busyGrid with hostProg := [0x4000000000000000] };
      step s = .next (after (step s)) ∧ (after (step s)).configured = false) :=
  ⟨rfl, rfl, rfl, rfl⟩

theorem witness_AddAppendsEvent :
    (let s := { State.reset with gq := ⟨[(3, ⟨1, 1, true⟩)], 49, 49⟩ };
      s.gq.count < 50 ∧ Memory.wf GridEvent.zero 50 s.gq.buf = true)
    ∧ (let s := { State.reset with aq := ⟨[(3, ⟨1, 1⟩)], 49, 49⟩ };
      s.aq.count < 50 ∧ Memory.wf ArcEvent.zero 50 s.aq.buf = true) := by decide

/-- The corner cell of the biggest grid and the last ring, with both queues full. -/
theorem witness_FullQueueDropsNewest :
    (let s := { busyGrid with gq := ⟨[(3, ⟨1, 1, true⟩)], 49, 50⟩ };
      s.gq.count = 50 ∧ gridMode s = true ∧ (15 : Byte).toNat < s.columns.toNat
        ∧ (15 : Byte).toNat < s.rows.toNat)
    ∧ (let s := { busyArc with aq := ⟨[(3, ⟨1, 1⟩)], 49, 50⟩ };
      s.aq.count = 50 ∧ arcMode s = true ∧ (3 : Byte).toNat < s.encoders.toNat) := by decide

theorem witness_ReadTakesOldestEvent :
    busyGrid.gq.head < 50
    ∧ busyGrid.gq.contents GridEvent.zero = [⟨1, 2, true⟩, ⟨3, 4, false⟩]
    ∧ busyArc.aq.head < 50 ∧ busyArc.aq.contents ArcEvent.zero = [⟨3, 0x80⟩] := by decide

theorem witness_EmptyReadReturnsSentinel :
    busyArc.gq.count = 0 ∧ busyGrid.aq.count = 0 := by decide

theorem witness_QueuesAreFifo :
    (let s := { State.reset with gq := ⟨[(7, ⟨9, 9, true⟩)], 49, 0⟩ };
      (List.replicate 50 (⟨1, 2, true⟩ : GridEvent)).length ≤ 50 ∧ s.gq.count = 0
        ∧ s.gq.head < 50 ∧ Memory.wf GridEvent.zero 50 s.gq.buf = true)
    ∧ (let s := { State.reset with aq := ⟨[(7, ⟨9, 9⟩)], 49, 0⟩ };
      (List.replicate 50 (⟨1, 2⟩ : ArcEvent)).length ≤ 50 ∧ s.aq.count = 0
        ∧ s.aq.head < 50 ∧ Memory.wf ArcEvent.zero 50 s.aq.buf = true) := by decide

theorem witness_AvailabilityIsStable :
    let s := { busyGrid with schedule := [.prod], prodProg := [0x1001020100000000] }
    s.schedule = [.prod] ∧ Turn.prod ≠ Turn.host ∧ step s = .next (after (step s)) :=
  ⟨rfl, by decide, rfl⟩

/-- Two different states with the same view. -/
theorem witness_UnspecifiedCellsAreUnobservable :
    let b := { busyArc with
      gq := ⟨[(7, ⟨9, 9, true⟩)], 0, 0⟩
      aq := ⟨[(8, ⟨1, 1⟩), (49, ⟨3, 0x80⟩)], 49, 1⟩
      rx := ⟨.idle, 0x50, 2, 1, [(0, 5)]⟩ }
    busyArc.Inv ∧ b.Inv ∧ busyArc.sameView b ∧ busyArc ≠ b :=
  ⟨witness_busyArc_inv,
    inv_of_check (by decide) (by decide) (by decide) (by decide) (by decide) (by decide),
    ⟨⟨rfl, rfl, rfl⟩, ⟨rfl, rfl, by decide⟩, ⟨rfl, fun h => by cases h⟩, rfl⟩, by decide⟩

theorem witness_PollTakesSnapshot :
    busyGrid.active = true ∧ State.reset.active = false ∧ State.reset.probing = false
    ∧ { State.reset with probing := true }.probing = true := by decide

/-- A whole POLL; then turns that take no byte: the snapshot used up, the receiver disabled in the
middle, no byte left, with HOST scheduled. -/
theorem witness_PollConsumesWhatWasAvailable :
    (let s := { busyGrid with hostProg := [0x2000000000000000] };
      s.Inv ∧ s.schedule = [] ∧ s.hostProg = [0x2000000000000000] ∧ s.job = .idle ∧ rxEn s = true)
    ∧ (let s := { busyGrid with job := .poll 1 1 };
      s.cfg.profile.wf = true ∧ s.job = .poll 1 1 ∧ s.rxs = [4, 0x21] ∧ s.schedule = [])
    ∧ (let s := { dropConnection busyGrid with job := .poll 2 0 };
      s.cfg.profile.wf = true ∧ s.job = .poll 2 0 ∧ rxEn s = false ∧ s.rxs = [4, 0x21])
    ∧ (let s := { busyArc with job := .poll 2 1, schedule := [.host] };
      s.cfg.profile.wf = true ∧ s.job = .poll 2 1 ∧ s.rxs = [] ∧ s.schedule = [.host]) :=
  ⟨⟨inv_of_check (by decide) (by decide) (by decide) (by decide) (by decide) (by decide),
      rfl, rfl, rfl, rfl⟩, by decide, by decide, by decide⟩

/-- A byte, no byte, the receiver disabled. -/
theorem witness_RxbyteTakesOneByte :
    (busyGrid.Inv ∧ rxEn busyGrid = true ∧ busyGrid.rxs = [4, 0x21])
    ∧ (busyArc.Inv ∧ rxEn busyArc = true ∧ busyArc.rxs = [])
    ∧ (State.reset.Inv ∧ rxEn State.reset = false) :=
  ⟨⟨witness_busyGrid_inv, rfl, rfl⟩, ⟨witness_busyArc_inv, rfl, rfl⟩, witness_reset_inv, rfl⟩

/-- The five situations of the framer, in the order of the clauses. -/
theorem witness_FramerFollowsByteRule :
    (State.reset.rx.state = .idle ∧ refProfile.rxEntry 0xFF = none)
    ∧ (skipProfile.rxEntry 0x7F = some ⟨0x7F, .skip 0, 0⟩ ∧ skipProfile.wf = true)
    ∧ (refProfile.rxEntry 0x0A = some ⟨0x0A, .rot, 1⟩)
    ∧ (let s := { State.reset with rx := ⟨.collect, 0x01, 32, 30, []⟩ };
      s.rx.state = .collect ∧ s.rx.cnt + 1 < s.rx.need ∧ s.rx.need ≤ s.cfg.profile.maxPlen)
    ∧ (let s := { State.reset with rx := ⟨.collect, 0x01, 32, 31, [(30, 7)]⟩ };
      s.rx.state = .collect ∧ s.rx.cnt + 1 = s.rx.need ∧ s.rx.need ≤ s.cfg.profile.maxPlen
        ∧ s.cfg.profile.rxEntry s.rx.cmd = some ⟨0x01, .infoId, 32⟩
        ∧ Memory.wf 0 s.cfg.profile.maxPlen s.rx.buf = true) := by decide

/-- The longest frame, no payload byte collected yet. -/
theorem witness_FramerResynchronises :
    let s := { busyGrid with rx := ⟨.collect, 0x01, 32, 0, []⟩ }
    s.Inv ∧ s.rx.state = .collect
    ∧ (List.replicate 32 (0xFF : Byte)).length = s.rx.need - s.rx.cnt :=
  ⟨inv_of_check (by decide) (by decide) (by decide) (by decide) (by decide) (by decide),
    rfl, rfl⟩

/-- The corner cell of the biggest grid, with a place left in the queue. -/
theorem witness_KeyFrameEnqueuesLogicalEvent :
    let s := { busyGrid with gq := ⟨[], 49, 49⟩, rotation := 3 }
    gridMode s = true ∧ (15 : Byte).toNat < s.columns.toNat ∧ (15 : Byte).toNat < s.rows.toNat
    ∧ s.gq.count < 50 ∧ Memory.wf GridEvent.zero 50 s.gq.buf = true := by decide

theorem witness_EncoderFrameEnqueuesEvent :
    let s := { busyArc with aq := ⟨[], 49, 49⟩ }
    arcMode s = true ∧ (3 : Byte).toNat < s.encoders.toNat ∧ s.aq.count < 50
    ∧ Memory.wf ArcEvent.zero 50 s.aq.buf = true := by decide

theorem witness_InfoFramesActivate :
    (capsApply State.reset.cfg.profile 0xFF 0xFF 0 0 0 = (0, 0, 0)
      ∧ dimsOk State.reset 0 0 0 = true)
    ∧ (capsApply busyGrid.cfg.profile 0 0 16 16 0 = (16, 16, 0) ∧ dimsOk busyGrid 16 16 0 = true)
    ∧ ((List.replicate 32 (0x6D : Byte)).length = State.reset.cfg.profile.idLen
      ∧ Memory.wf 0 State.reset.cfg.profile.idLen State.reset.deviceId = true) := by decide

theorem witness_SizeAndRotationFramesSetRegisters :
    (arcMode busyArc = true ∧ 1 ≤ (4 : Byte).toNat ∧ (4 : Byte).toNat ≤ 4)
    ∧ (arcMode busyGrid = false ∧ 1 ≤ (16 : Byte).toNat
      ∧ (16 : Byte).toNat * (16 : Byte).toNat ≤ 256)
    ∧ (3 : Byte).toNat ≤ 3 := by decide

/-- Each acceptance test at the first value it refuses; the dimensions of the last clause are ones no
run reaches under the identity `caps_apply`. -/
theorem witness_MalformedFramesChangeNothing :
    (gridMode busyArc = false ∧ busyGrid.columns.toNat ≤ (16 : Byte).toNat
      ∧ busyGrid.rows.toNat ≤ (16 : Byte).toNat)
    ∧ (arcMode busyGrid = false ∧ busyArc.encoders.toNat ≤ (4 : Byte).toNat)
    ∧ (arcMode busyArc = true ∧ 4 < (5 : Byte).toNat ∧ arcMode busyGrid = false
      ∧ 256 < (16 : Byte).toNat * (17 : Byte).toNat)
    ∧ 3 < (4 : Byte).toNat
    ∧ (let s := { State.reset with rows := 16, columns := 17 };
      capsApply s.cfg.profile 1 2 s.rows s.columns s.encoders = (16, 17, 0)
        ∧ dimsOk s 16 17 0 = false) := by decide

/-- The corner of the logical and of the physical rectangle of a 16 by 8 grid, turned and not. -/
theorem witness_RotationIsBijection :
    (1 ≤ 16 ∧ 1 ≤ 8 ∧ 7 < (logicalRect 1 16 8).1 ∧ 15 < (logicalRect 1 16 8).2)
    ∧ (15 < 16 ∧ 7 < 8) := by decide

/-- Rule R59: logical (0, 0) turned clockwise lands on the top right cell; with `CCW`, log entry 20. -/
theorem test_rotation_rows :
    rotFwd .cw 1 16 8 0 0 = (15, 0) ∧ rotFwd .ccw 1 16 8 0 0 = (0, 7)
    ∧ rotInv .cw 1 16 8 15 0 = (0, 0) ∧ rotInv .ccw 1 16 8 0 7 = (0, 0) := by decide

/-- Vector M6: a corner, with rotation 1. -/
theorem witness_KeyAtLitCellReportsItsCoordinates :
    let s := { grid 8 16 with rotation := 1, gq := ⟨[], 49, 49⟩ }
    gridMode s = true ∧ inLogicalRect s 7 15 = true
    ∧ ((0 : Byte).toNat, (7 : Byte).toNat)
        = rotFwd s.cfg.rotDir s.rotation s.columns.toNat s.rows.toNat (7 : Byte).toNat
            (15 : Byte).toNat
    ∧ s.gq.count < 50 ∧ Memory.wf GridEvent.zero 50 s.gq.buf = true := by decide

theorem witness_GridSettersWriteOneCell :
    gridMode busyGrid = true ∧ inLogicalRect busyGrid 15 15 = true
    ∧ busyGrid.rows.toNat * busyGrid.columns.toNat ≤ 256
    ∧ Memory.wf 0 256 busyGrid.led = true := by decide

theorem witness_ArcSettersWriteOneCell :
    arcMode busyArc = true ∧ (3 : Byte).toNat < busyArc.encoders.toNat ∧ (63 : Byte).toNat < 64
    ∧ busyArc.encoders.toNat ≤ 4 ∧ Memory.wf 0 256 busyArc.led = true := by decide

theorem witness_BulkMutatorsWriteTheirCells :
    (Memory.wf 0 256 busyGrid.led = true ∧ busyGrid.configured = true)
    ∧ (Memory.wf 0 256 busyArc.led = true ∧ busyArc.configured = true ∧ arcMode busyArc = true
      ∧ (3 : Byte).toNat < busyArc.encoders.toNat ∧ busyArc.encoders.toNat ≤ 4) := by decide

theorem witness_RejectedMutatorsChangeNothing :
    gridMode busyArc = false
    ∧ (gridMode busyGrid = true ∧ inLogicalRect busyGrid 16 0 = false)
    ∧ arcMode busyGrid = false
    ∧ (arcMode busyArc = true ∧ busyArc.encoders.toNat ≤ (4 : Byte).toNat ∧ 64 ≤ (64 : Byte).toNat)
    ∧ State.reset.configured = false := by decide

/-- The grid has four quads, the arc four rings; a grid of one quad clears its flag at once. -/
theorem witness_RefreshSendsFirstFrame :
    (busyGrid.Inv ∧ busyGrid.active = true ∧ nextOutcome busyGrid = .ok
      ∧ busyGrid.gridDirty = true)
    ∧ (busyArc.Inv ∧ busyArc.active = true ∧ nextOutcome busyArc = .ok ∧ busyArc.arcDirty = true)
    ∧ (let s := { grid 8 8 with gridDirty := true };
      s.Inv ∧ s.active = true ∧ nextOutcome s = .ok ∧ s.gridDirty = true) :=
  ⟨⟨witness_busyGrid_inv, rfl, rfl, rfl⟩, ⟨witness_busyArc_inv, rfl, rfl, rfl⟩,
    inv_of_check (by decide) (by decide) (by decide) (by decide) (by decide) (by decide),
    rfl, rfl, rfl⟩

theorem witness_RefreshSendsWholeGrid :
    let s := { busyGrid with hostProg := [0x3900000000000000] }
    s.Inv ∧ s.schedule = [] ∧ s.hostProg = [0x3900000000000000] ∧ s.job = .idle
    ∧ s.active = true ∧ s.gridDirty = true
    ∧ s.txPlan = List.replicate (quads s.columns.toNat * quads s.rows.toNat) .ok
        ++ [.ok, .ok, .ok, .ok] :=
  ⟨inv_of_check (by decide) (by decide) (by decide) (by decide) (by decide) (by decide),
    rfl, rfl, rfl, rfl, rfl, by decide⟩

theorem witness_RefreshSendsWholeArc :
    let s := { busyArc with hostProg := [0x3800000000000000] }
    s.Inv ∧ s.schedule = [] ∧ s.hostProg = [0x3800000000000000] ∧ s.job = .idle
    ∧ s.active = true ∧ s.arcDirty = true
    ∧ s.txPlan = List.replicate s.encoders.toNat .ok ++ [.ok, .ok, .ok, .ok] :=
  ⟨inv_of_check (by decide) (by decide) (by decide) (by decide) (by decide) (by decide),
    rfl, rfl, rfl, rfl, rfl, by decide⟩

theorem witness_CleanRefreshSendsNothing :
    busyGrid.active = true ∧ busyGrid.arcDirty = false ∧ busyArc.active = true
    ∧ busyArc.gridDirty = false ∧ (grid 8 8).gridDirty = false ∧ (grid 8 8).arcDirty = false := by
  decide

/-- The first frame of either region, and both jobs at their last frame; the failure comes before the
first byte in the last two. -/
theorem witness_FailedRefreshKeepsDirtyFlags :
    (let s := { busyGrid with txPlan := [.fail 10] };
      s.Inv ∧ nextOutcome s = .fail 10 ∧ s.active = true ∧ s.gridDirty = true)
    ∧ (let s := { busyArc with txPlan := [.fail 10] };
      s.Inv ∧ nextOutcome s = .fail 10 ∧ s.active = true ∧ s.arcDirty = true)
    ∧ (let s := { lastQuad with txPlan := [.fail 0] };
      s.Inv ∧ s.schedule = [] ∧ nextOutcome s = .fail 0 ∧ s.job = .gridFrames 16 16 3 false)
    ∧ (let s := { lastRing with txPlan := [.fail 0] };
      s.Inv ∧ s.schedule = [] ∧ nextOutcome s = .fail 0 ∧ s.job = .arcFrames 4 3) :=
  ⟨⟨inv_of_check (by decide) (by decide) (by decide) (by decide) (by decide) (by decide),
      rfl, rfl, rfl⟩,
    ⟨inv_of_check (by decide) (by decide) (by decide) (by decide) (by decide) (by decide),
      rfl, rfl, rfl⟩,
    ⟨inv_of_check (by decide) (by decide) (by decide) (by decide) (by decide) (by decide),
      rfl, rfl, rfl⟩,
    inv_of_check (by decide) (by decide) (by decide) (by decide) (by decide) (by decide),
    rfl, rfl, rfl⟩

theorem witness_SendersEmitTheirBytes :
    (nextOutcome busyGrid = .ok ∧ busyGrid.active = true ∧ gridMode busyGrid = true)
    ∧ (nextOutcome busyArc = .ok ∧ busyArc.active = true ∧ arcMode busyArc = true) := by decide

theorem witness_FailedEmissionRaisesTransportError :
    (let s := { busyGrid with
        txPlan := [.fail 2], tilt := [(3, ⟨true, true, 1, -2, 300⟩)] };
      nextOutcome s = .fail 2 ∧ s.active = true ∧ gridMode s = true ∧ (3 : Byte).toNat < 4
        ∧ (tiltRec s 3).active = true
        ∧ ¬((tiltRec s 3).reported = true ∧ (tiltRec s 3).lastX = 1 ∧ (tiltRec s 3).lastY = -2
          ∧ (tiltRec s 3).lastZ = 301))
    ∧ (let s := { busyArc with txPlan := [.fail 2] };
      nextOutcome s = .fail 2 ∧ s.active = true ∧ arcMode s = true) := by decide

theorem witness_InactiveOperationsAreNoops :
    let s := { busyGrid with active := false }
    s.active = false ∧ s.configured = true ∧ (3 : Byte).toNat < 4 ∧ s.probing = false := by decide

theorem witness_FirstConditionIsReported :
    State.reset.configured = false ∧ 4 ≤ (4 : Byte).toNat := by decide

theorem witness_SentFramesReachTheStream :
    nextOutcome busyGrid = .ok
    ∧ nextOutcome { busyGrid with txPlan := [.fail 1] } = .fail 1
    ∧ (∃ r, Instr.txRot 3 = .txRot r
      ∧ ([0x0A, 3] : List Byte) = [busyGrid.cfg.profile.txRot.cmd, r])
    ∧ (Instr.txQuery = .txQuery ∧ ([0x00, 0x01] : List Byte) = busyGrid.cfg.profile.querySeq) :=
  ⟨rfl, rfl, ⟨3, rfl, rfl⟩, rfl, rfl⟩

theorem witness_SetupConfiguresItsMode :
    (arcMode busyArc = true ∧ gridMode busyGrid = true)
    ∧ (arcMode busyGrid = false ∧ 1 ≤ (16 : Byte).toNat ∧ (16 : Byte).toNat * (16 : Byte).toNat ≤ 256
      ∧ (0 : Byte).toNat = 0 ∧ 256 < (16 : Byte).toNat * (17 : Byte).toNat)
    ∧ (gridMode busyArc = false ∧ 1 ≤ (4 : Byte).toNat ∧ (4 : Byte).toNat ≤ 4
      ∧ (0 : Byte).toNat = 0 ∧ 4 < (5 : Byte).toNat)
    ∧ opField 0x4200000000000000 = 0x42 ∧ opField 0x4300000000000000 = 0x43 := by decide

theorem witness_InitReturnsToReset : opField 0x40FF000000000000 = 0x40 := by decide

theorem witness_SetrotIsValidated :
    opField 0x4403000000000000 = 0x44 ∧ (3 : Byte).toNat ≤ 3 ∧ 3 < (4 : Byte).toNat := by decide

theorem witness_RegistersReadByNumber :
    opField 0x4510000000000000 = 0x45
    ∧ (0x10 ≤ (0x2F : Byte).toNat ∧ (0x2F : Byte).toNat < 0x10 + busyGrid.cfg.profile.idLen)
    ∧ (6 < (7 : Byte).toNat ∧ (7 : Byte).toNat < 0x10)
    ∧ 0x10 + busyGrid.cfg.profile.idLen ≤ (0x30 : Byte).toNat := by decide

theorem witness_SetupRevivesDroppedConnection :
    (busyGrid.Inv ∧ busyGrid.configured = true ∧ busyGrid.isGrid = true)
    ∧ (busyArc.Inv ∧ busyArc.configured = true ∧ busyArc.isGrid = false) :=
  ⟨⟨witness_busyGrid_inv, rfl, rfl⟩, witness_busyArc_inv, rfl, rfl⟩

theorem witness_SettiltTogglesSensor :
    opField 0x5003010000000000 = 0x50 ∧ (3 : Byte).toNat < 4 ∧ 4 ≤ (4 : Byte).toNat
    ∧ Memory.wf TiltRec.zero 4 tiltOn.tilt = true := by decide

/-- A first sample, a sensor that is off, and a sample equal to the stored one. -/
theorem witness_SendtiltStoresAndSends :
    (tiltOn.active = true ∧ Memory.wf TiltRec.zero 4 tiltOn.tilt = true
      ∧ (tiltRec tiltOn 0).active = true ∧ nextOutcome tiltOn = .ok
      ∧ ¬((tiltRec tiltOn 0).reported = true ∧ (tiltRec tiltOn 0).lastX = 0
        ∧ (tiltRec tiltOn 0).lastY = 0 ∧ (tiltRec tiltOn 0).lastZ = 0))
    ∧ ((3 : Byte).toNat < 4 ∧ (tiltRec tiltOn 3).active = false)
    ∧ (let s := { tiltOn with tilt := [(3, ⟨true, true, 1, -2, 300⟩)] };
      s.active = true ∧ Memory.wf TiltRec.zero 4 s.tilt = true
        ∧ (tiltRec s 3).reported = true ∧ (tiltRec s 3).lastX = 1 ∧ (tiltRec s 3).lastY = -2
        ∧ (tiltRec s 3).lastZ = 300) := by decide

/-- A first sample with the reset values, and a sample that repeats the stored one. -/
theorem witness_IdenticalTiltSamplesSendOnce :
    ((0 : Byte).toNat < 4 ∧ tiltOn.active = true ∧ Memory.wf TiltRec.zero 4 tiltOn.tilt = true
      ∧ (tiltRec tiltOn 0).active = true ∧ nextOutcome tiltOn = .ok
      ∧ ¬((tiltRec tiltOn 0).reported = true ∧ (tiltRec tiltOn 0).lastX = 0
        ∧ (tiltRec tiltOn 0).lastY = 0 ∧ (tiltRec tiltOn 0).lastZ = 0)
      ∧ exec (.sendtilt 0 0 0 0) tiltOn = .next (after (exec (.sendtilt 0 0 0 0) tiltOn)))
    ∧ (let s := { tiltOn with tilt := [(3, ⟨true, true, 1, -2, 300⟩)] };
      (3 : Byte).toNat < 4 ∧ s.active = true ∧ Memory.wf TiltRec.zero 4 s.tilt = true
        ∧ (tiltRec s 3).active = true ∧ nextOutcome s = .ok ∧ (tiltRec s 3).reported = true
        ∧ (tiltRec s 3).lastX = 1 ∧ (tiltRec s 3).lastY = -2 ∧ (tiltRec s 3).lastZ = 300
        ∧ exec (.sendtilt 3 1 (-2) 300) s = .next (after (exec (.sendtilt 3 1 (-2) 300) s))) :=
  ⟨⟨by decide, rfl, by decide, rfl, rfl, by decide, rfl⟩,
    by decide, rfl, by decide, rfl, rfl, rfl, rfl, rfl, rfl, rfl⟩

end Sys2Proof.Tests
end

section
/-! SUPPORT. No step changes a parameter (rules R5, R10): what it means that an outcome can only go
on with a property, what each operation does to `State.cfg`, and the step. -/

namespace Sys2Proof.Machine

/-! ### Properties of the state an outcome goes on with -/

/-- Where the outcome goes on, it goes on with a state that has the property. -/
def Leads (P : State → Prop) (o : Result) : Prop := ∀ t, o = .next t → P t

@[simp] theorem leads_next {P : State → Prop} {t : State} : Leads P (.next t) ↔ P t := by
  simp [Leads]

@[simp] theorem leads_fault {P : State → Prop} {r : Fault} : Leads P (.fault r) := by
  simp [Leads]

theorem Leads.andThen {P Q : State → Prop} {o : Result} {f : State → Result} (ho : Leads P o)
    (hf : ∀ u, P u → Leads Q (f u)) : Leads Q (andThen o f) := by
  intro t h
  obtain ⟨u, hu, ht⟩ := andThen_eq_next.1 h
  exact hf u (ho u hu) t ht

/-! ### Shared operations keep the parameters -/

/-- An emission keeps the parameters if what follows its success keeps them. -/
theorem emitThen_cfg {go : State → State} (hgo : ∀ u, (go u).cfg = u.cfg) (sent : Bool)
    (bs : List Byte) (s : State) : (emitThen sent bs s go).cfg = s.cfg := by
  rcases emitThen_cases sent bs s go with ⟨-, he⟩ | ⟨-, he⟩
  · rw [he, hgo, txEmit_cfg]
  · rw [he, raiseWith_cfg, txEmit_cfg]

@[simp] theorem blockReset_cfg (s : State) : (blockReset s).cfg = s.cfg := rfl

@[simp] theorem storeTilt_cfg (s : State) (n : Nat) (x y z : Half) :
    (storeTilt s n x y z).cfg = s.cfg := rfl

@[simp] theorem arcDone_cfg (s : State) : (arcDone s).cfg = s.cfg := rfl

@[simp] theorem gridDone_cfg (thenArc : Bool) (s : State) :
    (gridDone thenArc s).cfg = s.cfg := by
  unfold gridDone; split <;> rfl

/-! ### The received frames (rules R124 to R130) -/

@[simp] theorem keyFrame_cfg (v : Bool) (xp yp : Byte) (s : State) :
    (keyFrame v xp yp s).cfg = s.cfg := by
  unfold keyFrame; split <;> simp

@[simp] theorem encFrame_cfg (n d : Byte) (s : State) : (encFrame n d s).cfg = s.cfg := by
  unfold encFrame; split <;> simp

@[simp] theorem infoCapsFrame_cfg (c0 c1 : Byte) (s : State) :
    (infoCapsFrame c0 c1 s).cfg = s.cfg := by
  dsimp only [infoCapsFrame]; split <;> simp

@[simp] theorem sizeFrame_cfg (s0 s1 : Byte) (s : State) : (sizeFrame s0 s1 s).cfg = s.cfg := by
  unfold sizeFrame; split_ifs <;> simp

@[simp] theorem rotFrame_cfg (r : Byte) (s : State) : (rotFrame r s).cfg = s.cfg := by
  unfold rotFrame; split <;> simp

theorem infoIdFrame_leads_cfg (id : List Byte) (s : State) :
    Leads (·.cfg = s.cfg) (infoIdFrame id s) := by
  unfold infoIdFrame; split <;> simp

theorem dispatchFrame_leads_cfg (k : RxKind) (pl : List Byte) (s : State) :
    Leads (·.cfg = s.cfg) (dispatchFrame k pl s) := by
  intro t h
  rcases dispatchFrame_cases h with ⟨v, xp, yp, -, -, rfl⟩ | ⟨n, d, -, -, rfl⟩ |
    ⟨c0, c1, -, -, rfl⟩ | ⟨-, -, rfl⟩ | ⟨s0, s1, -, -, rfl⟩ | ⟨r, -, -, rfl⟩ | ⟨n, -, rfl⟩
  · exact keyFrame_cfg v xp yp s
  · exact encFrame_cfg n d s
  · exact infoCapsFrame_cfg c0 c1 s
  · rfl
  · exact sizeFrame_cfg s0 s1 s
  · exact rotFrame_cfg r s
  · rfl

/-! ### The framer and the loops of the compound operations (rules R121, R122, R159, R160) -/

theorem rxStart_leads_cfg (b : Byte) (s : State) : Leads (·.cfg = s.cfg) (rxStart b s) := by
  intro t h
  rcases rxStart_cases h with ⟨-, rfl⟩ | ⟨e, -, -, hd⟩ | ⟨e, -, -, rfl⟩
  · rfl
  · exact dispatchFrame_leads_cfg _ _ s t hd
  · rfl

theorem rxCollect_leads_cfg (b : Byte) (s : State) : Leads (·.cfg = s.cfg) (rxCollect b s) := by
  intro t h
  obtain ⟨-, ⟨-, rfl⟩ | ⟨-, e, u, -, hd, rfl⟩⟩ := rxCollect_cases h
  · rfl
  · exact dispatchFrame_leads_cfg _ _ (storePayload b s) u hd

theorem rxStep_leads_cfg (b : Byte) (s : State) : Leads (·.cfg = s.cfg) (rxStep b s) := by
  unfold rxStep
  split
  · exact rxStart_leads_cfg b s
  · exact rxCollect_leads_cfg b s

theorem pollTurn_leads_cfg (k n : Nat) (s : State) : Leads (·.cfg = s.cfg) (pollTurn k n s) := by
  intro t h
  rcases pollTurn_cases h with rfl | ⟨-, -, b, rest, u, -, hu, rfl⟩
  · rfl
  · exact rxStep_leads_cfg b { s with rxs := rest } u hu

theorem gridTurn_leads_cfg (sent : Bool) (w h quad : Nat) (thenArc : Bool) (s : State) :
    Leads (·.cfg = s.cfg) (gridTurn sent w h quad thenArc s) := by
  intro t ht
  obtain ⟨-, ⟨-, rfl⟩ | ⟨-, rfl⟩⟩ := gridTurn_cases ht
  · refine emitThen_cfg (fun u => ?_) _ _ _
    split <;> simp
  · exact gridDone_cfg thenArc s

theorem arcTurn_leads_cfg (sent : Bool) (rings ring : Nat) (s : State) :
    Leads (·.cfg = s.cfg) (arcTurn sent rings ring s) := by
  intro t ht
  obtain ⟨-, -, rfl⟩ | ⟨-, rfl⟩ := arcTurn_cases ht
  · refine emitThen_cfg (fun u => ?_) _ _ _
    split <;> simp
  · exact arcDone_cfg s

/-! ### The instructions -/

theorem execRdg_leads_cfg (s : State) : Leads (·.cfg = s.cfg) (execRdg s) := by
  unfold execRdg; split_ifs <;> simp

theorem execRda_leads_cfg (s : State) : Leads (·.cfg = s.cfg) (execRda s) := by
  unfold execRda; split_ifs <;> simp

theorem execPoll_leads_cfg (s : State) : Leads (·.cfg = s.cfg) (execPoll s) := by
  unfold execPoll; split <;> simp

theorem execRxbyte_leads_cfg (s : State) : Leads (·.cfg = s.cfg) (execRxbyte s) := by
  unfold execRxbyte
  split
  · simp
  · split
    · simp
    · exact (rxStep_leads_cfg _ _).andThen fun u hu => by simpa using hu

theorem setGridLed_leads_cfg (x y level : Byte) (s : State) :
    Leads (·.cfg = s.cfg) (setGridLed x y level s) := by
  unfold setGridLed; split_ifs <;> simp

theorem setArcLed_leads_cfg (ring led level : Byte) (s : State) :
    Leads (·.cfg = s.cfg) (setArcLed ring led level s) := by
  unfold setArcLed; split_ifs <;> simp

theorem setAllLeds_leads_cfg (level : Byte) (s : State) :
    Leads (·.cfg = s.cfg) (setAllLeds level s) := by
  unfold setAllLeds; split <;> simp

theorem execClrring_leads_cfg (ring : Byte) (s : State) :
    Leads (·.cfg = s.cfg) (execClrring ring s) := by
  unfold execClrring; split_ifs <;> simp

theorem execRefreshg_leads_cfg (s : State) : Leads (·.cfg = s.cfg) (execRefreshg s) := by
  unfold execRefreshg; split_ifs <;> simp [gridTurn_leads_cfg]

theorem execRefresha_leads_cfg (s : State) : Leads (·.cfg = s.cfg) (execRefresha s) := by
  unfold execRefresha; split_ifs <;> simp [arcTurn_leads_cfg]

theorem execRefresh_leads_cfg (s : State) : Leads (·.cfg = s.cfg) (execRefresh s) := by
  unfold execRefresh; split_ifs <;> simp [gridTurn_leads_cfg, arcTurn_leads_cfg]

theorem execSendsize_leads_cfg (s : State) : Leads (·.cfg = s.cfg) (execSendsize s) := by
  unfold execSendsize
  split_ifs
  · simp
  · simp
  · exact leads_next.2 (emitThen_cfg (by simp) _ _ _)

theorem execSendrot_leads_cfg (s : State) : Leads (·.cfg = s.cfg) (execSendrot s) := by
  unfold execSendrot
  split
  · simp
  · exact leads_next.2 (emitThen_cfg (by simp) _ _ _)

theorem execGetinfo_leads_cfg (s : State) : Leads (·.cfg = s.cfg) (execGetinfo s) :=
  leads_next.2 (emitThen_cfg (by simp) _ _ _)

theorem execSetupg_leads_cfg (rows columns : Byte) (s : State) :
    Leads (·.cfg = s.cfg) (execSetupg rows columns s) := by
  unfold execSetupg; split_ifs <;> simp

theorem execSetupa_leads_cfg (encoders : Byte) (s : State) :
    Leads (·.cfg = s.cfg) (execSetupa encoders s) := by
  unfold execSetupa; split_ifs <;> simp

theorem execSetrot_leads_cfg (r : Byte) (s : State) :
    Leads (·.cfg = s.cfg) (execSetrot r s) := by
  unfold execSetrot; split <;> simp

theorem execRdreg_leads_cfg (n : Byte) (s : State) :
    Leads (·.cfg = s.cfg) (execRdreg n s) := by
  unfold execRdreg; split <;> simp

theorem execSettilt_leads_cfg (sensor : Byte) (active : Bool) (s : State) :
    Leads (·.cfg = s.cfg) (execSettilt sensor active s) := by
  unfold execSettilt; split <;> simp

theorem execSendtilt_leads_cfg (sensor : Byte) (x y z : Half) (s : State) :
    Leads (·.cfg = s.cfg) (execSendtilt sensor x y z s) := by
  unfold execSendtilt
  split_ifs
  · simp
  · simp
  · simp
  · simp
  · exact leads_next.2 (emitThen_cfg (by simp) _ _ _)

/-- No instruction changes a parameter, whatever the state. -/
theorem exec_leads_cfg (i : Instr) (s : State) : Leads (·.cfg = s.cfg) (exec i s) := by
  cases i with
  | addg x y pressed => simp [exec, execAddg]
  | adda index delta => simp [exec, execAdda]
  | gavail => simp [exec, execGavail]
  | aavail => simp [exec, execAavail]
  | rdg => exact execRdg_leads_cfg s
  | rda => exact execRda_leads_cfg s
  | poll => exact execPoll_leads_cfg s
  | rxbyte => exact execRxbyte_leads_cfg s
  | setgled x y level => exact setGridLed_leads_cfg x y level s
  | clrgled x y => exact setGridLed_leads_cfg x y 0 s
  | setaled ring led level => exact setArcLed_leads_cfg ring led level s
  | clraled ring led => exact setArcLed_leads_cfg ring led 0 s
  | setall level => exact setAllLeds_leads_cfg level s
  | clrall => exact setAllLeds_leads_cfg 0 s
  | clrring ring => exact execClrring_leads_cfg ring s
  | refreshg => exact execRefreshg_leads_cfg s
  | refresha => exact execRefresha_leads_cfg s
  | refresh => exact execRefresh_leads_cfg s
  | sendsize => exact execSendsize_leads_cfg s
  | sendrot => exact execSendrot_leads_cfg s
  | init => simp [exec, execInit]
  | getinfo => exact execGetinfo_leads_cfg s
  | setupg rows columns => exact execSetupg_leads_cfg rows columns s
  | setupa encoders => exact execSetupa_leads_cfg encoders s
  | setrot r => exact execSetrot_leads_cfg r s
  | rdreg n => exact execRdreg_leads_cfg n s
  | settilt sensor active => exact execSettilt_leads_cfg sensor active s
  | sendtilt sensor x y z => exact execSendtilt_leads_cfg sensor x y z s
  | rxInfoCaps c0 c1 => simp [exec, execRxInfoCaps]
  | rxInfoId id => exact infoIdFrame_leads_cfg id s
  | rxSize s0 s1 => simp [exec, execRxSize]
  | rxRot r => simp [exec, execRxRot]
  | rxKeyup xp yp => simp [exec, execRxKeyup]
  | rxKeydn xp yp => simp [exec, execRxKeydn]
  | rxEnc n d => simp [exec, execRxEnc]
  | txSize p0 p1 => simp [exec, execTxSize]
  | txRot r => simp [exec, execTxRot]
  | txGmap xo yo levels => simp [exec, execTxGmap]
  | txAmap ring levels => simp [exec, execTxAmap]
  | txTilt sensor x y z => simp [exec, execTxTilt]
  | txQuery => simp [exec, execTxQuery]

/-! ### The agents' turns and the step (rules R51, R52, R63) -/

theorem issue_leads_cfg (a : Agent) (cw : Command) (s : State) :
    Leads (·.cfg = s.cfg) (issue a cw s) := by
  intro t h
  rcases issue_cases h with ⟨i, -, -, hi⟩ | ⟨e, -, rfl⟩
  · exact exec_leads_cfg i s t hi
  · simp

theorem hostServed_leads_cfg (s : State) : Leads (·.cfg = s.cfg) (hostServed s) := by
  intro t h
  rcases hostServed_cases h with ⟨-, -, rfl⟩ | ⟨cw, rest, -, -, hi⟩ | ⟨k, n, -, hp⟩ |
    ⟨w, h', quad, thenArc, -, hg⟩ | ⟨rings, ring, -, ha⟩
  · rfl
  · exact issue_leads_cfg .host cw { s with hostProg := rest } t hi
  · exact pollTurn_leads_cfg _ _ _ t hp
  · exact gridTurn_leads_cfg _ _ _ _ _ _ t hg
  · exact arcTurn_leads_cfg _ _ _ _ t ha

theorem prodServed_leads_cfg (s : State) : Leads (·.cfg = s.cfg) (prodServed s) := by
  intro t h
  rcases prodServed_cases h with ⟨-, rfl⟩ | ⟨cw, rest, -, hi⟩
  · rfl
  · exact issue_leads_cfg .prod cw { s with prodProg := rest } t hi

/-- No step changes a parameter. -/
theorem step_cfg {s t : State} (h : step s = .next t) : t.cfg = s.cfg := by
  obtain ⟨-, ⟨-, ht⟩ | ⟨rest, -, ht⟩ | ⟨rest, -, ht⟩ | ⟨b, rest, -, rfl⟩ | ⟨rest, -, rfl⟩⟩ :=
    step_cases h
  · exact hostServed_leads_cfg { s with port := .host } t ht
  · exact hostServed_leads_cfg { s with port := .host, schedule := rest } t ht
  · exact prodServed_leads_cfg { s with port := .prod, schedule := rest } t ht
  · rfl
  · rfl

/-- Settles O16: by cases over the turns a step can be and over the instructions an agent can
issue. -/
theorem parametersAreFixed : Obligations.ParametersAreFixed := fun _ _ => step_cfg

end Sys2Proof.Machine
end

section
/-! SUPPORT. Under the invariant no step stops with a fault (rule R7): for each operation with a
computed cell or a framer access, the part of the invariant that puts the access inside its
space. -/

namespace Sys2Proof.Machine

/-! ### Outcomes without a fault -/

/-- The outcome is no stop with a fault. -/
def NoFault (o : Result) : Prop := ∀ r, o ≠ .fault r

@[simp] theorem noFault_next (t : State) : NoFault (.next t) := by simp [NoFault]

@[simp] theorem noFault_refused (r : Refusal) : NoFault (.refused r) := by simp [NoFault]

/-- Going on from an outcome without a fault, to a next state, faults nowhere. -/
theorem NoFault.andThen_next {o : Result} (ho : NoFault o) (f : State → State) :
    NoFault (andThen o fun t => .next (f t)) := by
  intro r h
  rcases andThen_eq_fault.1 h with h | ⟨s, -, h⟩
  · exact ho r h
  · cases h

/-! ### What the invariant says of the computed cells -/

/-- The invariant looks at none of the fields a turn takes its work from. -/
theorem State.Inv.withAgents {s : State} (h : s.Inv) {port : Agent} {rxs : List Byte}
    {schedule : List Turn} {hostProg prodProg : List Command} :
    State.Inv
      { s with
        port := port, rxs := rxs, schedule := schedule, hostProg := hostProg
        prodProg := prodProg } :=
  ⟨h.profile, h.memory, h.gridQueue, h.arcQueue, h.mode, h.dims, h.dirty, h.framer, h.job⟩

/-- A configured grid's image fits LedFrame (rule R23). -/
theorem State.Inv.grid_area {s : State} (h : s.Inv) (hg : gridMode s = true) :
    s.rows.toNat * s.columns.toNat ≤ ledn := (h.dims.1 hg).2.2

/-- A configured arc has at most four rings (rule R23). -/
theorem State.Inv.encoders_le {s : State} (h : s.Inv) (ha : arcMode s = true) :
    s.encoders.toNat ≤ arcRings := (h.dims.2.1 ha).2

/-- A grid refresh is due only where the image fits LedFrame (rules R23, R165). -/
theorem State.Inv.gridDirty_area {s : State} (h : s.Inv) (hd : s.gridDirty = true) :
    s.columns.toNat * s.rows.toNat ≤ ledn := by
  rw [Nat.mul_comm]
  exact h.grid_area (h.dirty.1 hd)

/-- An arc refresh is due only for rings LedFrame has (rules R23, R165). -/
theorem State.Inv.arcDirty_rings {s : State} (h : s.Inv) (hd : s.arcDirty = true) :
    s.encoders.toNat ≤ arcRings := h.encoders_le (h.dirty.2 hd)

/-- The 64 cells of one of the four rings lie in LedFrame (rule R55). -/
theorem ledIndexArc_ring_le {n : Nat} (hn : n < arcRings) : ledIndexArc n ringLeds ≤ ledn := by
  simp only [ledIndexArc, arcRings, ringLeds, ledn] at *
  omega

/-- A table entry's payload has its kind's length (rules R76, R77). -/
theorem State.Inv.entry_plen {s : State} (h : s.Inv) {b : Byte} {e : RxEntry}
    (he : s.cfg.profile.rxEntry b = some e) : e.plen = s.cfg.profile.rxPlen e.kind :=
  Profile.wf_plen h.profile (rxEntry_mem he).1

/-! ### The decode path (rules R13, R122, R132) -/

theorem dispatchFrame_noFault {s : State} {k : RxKind} {pl : List Byte}
    (h : pl.length = s.cfg.profile.rxPlen k) : NoFault (dispatchFrame k pl s) := by
  obtain ⟨t, ht⟩ := dispatchFrame_next h
  simp [ht]

theorem rxStart_noFault {s : State} (h : s.Inv) (b : Byte) : NoFault (rxStart b s) := by
  unfold rxStart
  split
  · simp
  · rename_i e he
    split
    · rename_i hz
      exact dispatchFrame_noFault (by simp [← h.entry_plen he, hz])
    · simp

/-- A collected frame has the length of its kind when it is complete (rule R132). -/
theorem rxCollect_noFault {s : State} (h : s.Inv) (hc : s.rx.state = .collect) (b : Byte) :
    NoFault (rxCollect b s) := by
  obtain ⟨e, he, hneed, hcnt⟩ := h.framer hc
  have hfits : s.rx.cnt < s.cfg.profile.maxPlen :=
    lt_of_lt_of_le (hneed ▸ hcnt) (plen_le_maxPlen (rxEntry_mem he).1)
  have hcomplete : NoFault (rxComplete (storePayload b s)) := by
    simp only [rxComplete, storePayload_cfg, storePayload_rx, he]
    refine NoFault.andThen_next (dispatchFrame_noFault ?_) _
    simp [hneed, h.entry_plen he]
  simp only [rxCollect, hfits, if_true]
  split
  · exact hcomplete
  · simp

theorem rxStep_noFault {s : State} (h : s.Inv) (b : Byte) : NoFault (rxStep b s) := by
  unfold rxStep
  split
  · exact rxStart_noFault h b
  · exact rxCollect_noFault h ‹_› b

theorem execRxbyte_noFault {s : State} (h : s.Inv) : NoFault (execRxbyte s) := by
  unfold execRxbyte
  split
  · simp
  · split
    · simp
    · exact (rxStep_noFault h.withAgents _).andThen_next _

theorem execPoll_noFault (s : State) : NoFault (execPoll s) := by
  unfold execPoll; split <;> simp

theorem pollTurn_noFault {s : State} (h : s.Inv) (k n : Nat) : NoFault (pollTurn k n s) := by
  unfold pollTurn
  split
  · simp
  · split
    · exact (rxStep_noFault h.withAgents _).andThen_next _
    · simp

/-! ### The event queues (rules R19, R42) -/

theorem execRdg_noFault {s : State} (h : s.Inv) : NoFault (execRdg s) := by
  simp only [execRdg, h.gridQueue.1, if_true]
  split <;> simp

theorem execRda_noFault {s : State} (h : s.Inv) : NoFault (execRda s) := by
  simp only [execRda, h.arcQueue.1, if_true]
  split <;> simp

/-! ### The encode path (rules R41, R54, R55) -/

theorem setGridLed_noFault {s : State} (h : s.Inv) (x y level : Byte) :
    NoFault (setGridLed x y level s) := by
  unfold setGridLed
  split_ifs with hg hr hc
  · simp
  · simp
  · simp
  · exact absurd (gridCell_lt (h.grid_area (by simpa using hg)) (by simpa using hr)) hc

theorem setArcLed_noFault {s : State} (h : s.Inv) (ring led level : Byte) :
    NoFault (setArcLed ring led level s) := by
  unfold setArcLed
  split_ifs with ha hr hc
  · simp
  · simp
  · simp
  · have henc := h.encoders_le (by simpa using ha)
    simp only [Bool.not_eq_true', Bool.not_eq_false, Bool.and_eq_true, decide_eq_true_eq] at hr
    simp only [ledIndexArc, arcRings, ringLeds, ledn] at *
    omega

theorem setAllLeds_noFault (level : Byte) (s : State) : NoFault (setAllLeds level s) := by
  unfold setAllLeds; split <;> simp

theorem execClrring_noFault {s : State} (h : s.Inv) (ring : Byte) :
    NoFault (execClrring ring s) := by
  unfold execClrring
  split_ifs with ha hr hc
  · simp
  · simp
  · simp
  · have hring : ring.toNat < s.encoders.toNat := by simpa using hr
    exact absurd (ledIndexArc_ring_le (hring.trans_le (h.encoders_le (by simpa using ha)))) hc

theorem gridTurn_noFault {w h : Nat} (hwh : w * h ≤ ledn) (sent : Bool) (quad : Nat)
    (thenArc : Bool) (s : State) : NoFault (gridTurn sent w h quad thenArc s) := by
  simp only [gridTurn, hwh, if_true]
  split <;> simp

theorem arcTurn_noFault {rings : Nat} (hr : rings ≤ arcRings) (sent : Bool) (ring : Nat)
    (s : State) : NoFault (arcTurn sent rings ring s) := by
  by_cases hlt : ring < rings
  · simp [arcTurn, hlt, ledIndexArc_ring_le (hlt.trans_le hr)]
  · simp [arcTurn, hlt]

theorem execRefreshg_noFault {s : State} (h : s.Inv) : NoFault (execRefreshg s) := by
  unfold execRefreshg
  split_ifs with ha hd
  · simp
  · simp
  · exact gridTurn_noFault (h.gridDirty_area (by simpa using hd)) _ _ _ _

theorem execRefresha_noFault {s : State} (h : s.Inv) : NoFault (execRefresha s) := by
  unfold execRefresha
  split_ifs with ha hd
  · simp
  · simp
  · exact arcTurn_noFault (h.arcDirty_rings (by simpa using hd)) _ _ _

theorem execRefresh_noFault {s : State} (h : s.Inv) : NoFault (execRefresh s) := by
  unfold execRefresh
  split_ifs with ha hd hg
  · simp
  · simp
  · exact gridTurn_noFault (h.gridDirty_area hg) _ _ _ _
  · exact arcTurn_noFault (h.arcDirty_rings (by simpa [hg] using hd)) _ _ _

/-! ### The instructions without an access that could fail -/

theorem execSendsize_noFault (s : State) : NoFault (execSendsize s) := by
  unfold execSendsize; split_ifs <;> simp

theorem execSendrot_noFault (s : State) : NoFault (execSendrot s) := by
  unfold execSendrot; split <;> simp

theorem execSetupg_noFault (rows columns : Byte) (s : State) :
    NoFault (execSetupg rows columns s) := by
  unfold execSetupg; split_ifs <;> simp

theorem execSetupa_noFault (encoders : Byte) (s : State) : NoFault (execSetupa encoders s) := by
  unfold execSetupa; split_ifs <;> simp

theorem execSetrot_noFault (r : Byte) (s : State) : NoFault (execSetrot r s) := by
  unfold execSetrot; split <;> simp

theorem execRdreg_noFault (n : Byte) (s : State) : NoFault (execRdreg n s) := by
  unfold execRdreg; split <;> simp

theorem execSettilt_noFault (sensor : Byte) (active : Bool) (s : State) :
    NoFault (execSettilt sensor active s) := by
  unfold execSettilt; split <;> simp

theorem execSendtilt_noFault (sensor : Byte) (x y z : Half) (s : State) :
    NoFault (execSendtilt sensor x y z s) := by
  unfold execSendtilt; split_ifs <;> simp

theorem infoIdFrame_noFault {id : List Byte} {s : State}
    (h : id.length = s.cfg.profile.idLen) : NoFault (infoIdFrame id s) := by
  simp [infoIdFrame, h]

/-! ### The instructions together -/

/-- Under the invariant no well-formed instruction faults. Well-formedness is needed for RX_INFO_ID
alone, whose identifier must have the profile's length (rule R77). -/
theorem exec_noFault {i : Instr} {s : State} (h : s.Inv)
    (hi : i.wellFormed s.cfg.profile = true) : NoFault (exec i s) := by
  cases i with
  | addg x y pressed => exact noFault_next _
  | adda index delta => exact noFault_next _
  | gavail => exact noFault_next _
  | aavail => exact noFault_next _
  | rdg => exact execRdg_noFault h
  | rda => exact execRda_noFault h
  | poll => exact execPoll_noFault s
  | rxbyte => exact execRxbyte_noFault h
  | setgled x y level => exact setGridLed_noFault h x y level
  | clrgled x y => exact setGridLed_noFault h x y 0
  | setaled ring led level => exact setArcLed_noFault h ring led level
  | clraled ring led => exact setArcLed_noFault h ring led 0
  | setall level => exact setAllLeds_noFault level s
  | clrall => exact setAllLeds_noFault 0 s
  | clrring ring => exact execClrring_noFault h ring
  | refreshg => exact execRefreshg_noFault h
  | refresha => exact execRefresha_noFault h
  | refresh => exact execRefresh_noFault h
  | sendsize => exact execSendsize_noFault s
  | sendrot => exact execSendrot_noFault s
  | init => exact noFault_next _
  | getinfo => exact noFault_next _
  | setupg rows columns => exact execSetupg_noFault rows columns s
  | setupa encoders => exact execSetupa_noFault encoders s
  | setrot r => exact execSetrot_noFault r s
  | rdreg n => exact execRdreg_noFault n s
  | settilt sensor active => exact execSettilt_noFault sensor active s
  | sendtilt sensor x y z => exact execSendtilt_noFault sensor x y z s
  | rxInfoCaps c0 c1 => exact noFault_next _
  | rxInfoId id =>
    simp only [Instr.wellFormed, Bool.and_eq_true, beq_iff_eq] at hi
    exact infoIdFrame_noFault hi.2
  | rxSize s0 s1 => exact noFault_next _
  | rxRot r => exact noFault_next _
  | rxKeyup xp yp => exact noFault_next _
  | rxKeydn xp yp => exact noFault_next _
  | rxEnc n d => exact noFault_next _
  | txSize p0 p1 => exact noFault_next _
  | txRot r => exact noFault_next _
  | txGmap xo yo levels => exact noFault_next _
  | txAmap ring levels => exact noFault_next _
  | txTilt sensor x y z => exact noFault_next _
  | txQuery => exact noFault_next _

/-- A command word is a port operation, well-formed under every profile (rules R71, R72). -/
theorem decodeCommand_wellFormed {cw : Command} {i : Instr} (p : Profile)
    (h : decodeCommand cw = .ok i) : i.wellFormed p = true := by
  unfold decodeCommand at h
  split at h <;> cases h <;> rfl

/-! ### The agents' turns and the step (rules R51, R52, R63) -/

theorem issue_noFault {s : State} (h : s.Inv) (a : Agent) (cw : Command) :
    NoFault (issue a cw s) := by
  cases hd : decodeCommand cw with
  | error e => simp [issue_illegal hd]
  | ok i =>
    cases hp : portAllows s.cfg a i with
    | false => simp [issue_refused hd hp]
    | true =>
      rw [issue_ok hd hp]
      exact exec_noFault h (decodeCommand_wellFormed _ hd)

/-- HOST goes on with its operation inside the bounds that operation keeps (`State.jobOk`). -/
theorem jobTurn_noFault {s : State} (h : s.Inv) : NoFault (jobTurn s) := by
  have hjob := h.job
  unfold jobTurn
  unfold State.jobOk at hjob
  cases hj : s.job with
  | idle => simp
  | poll k n => exact pollTurn_noFault h k n
  | gridFrames w h' quad thenArc =>
    simp only [hj] at hjob
    exact gridTurn_noFault hjob.1 _ _ _ _
  | arcFrames rings ring =>
    simp only [hj] at hjob
    exact arcTurn_noFault hjob.1 _ _ _

theorem hostTurn_noFault {s : State} (h : s.Inv) : NoFault (hostTurn s) := by
  unfold hostTurn hostServed
  split
  · split
    · simp
    · exact issue_noFault h.withAgents _ _
  · exact jobTurn_noFault h.withAgents

theorem prodTurn_noFault {s : State} (h : s.Inv) : NoFault (prodTurn s) := by
  unfold prodTurn prodServed
  split
  · simp
  · exact issue_noFault h.withAgents _ _

theorem step_noFault {s : State} (h : s.Inv) : NoFault (step s) := by
  rw [step_eq_takeTurn h.profile]
  unfold takeTurn
  split
  · exact hostTurn_noFault h
  · exact hostTurn_noFault h.withAgents
  · exact prodTurn_noFault h.withAgents
  · simp
  · simp

/-- Settles O15: by cases over the turns and the instructions, each computed access inside its
space by the part of the invariant that bounds it. -/
theorem invariantStepsNeverFault : Obligations.InvariantStepsNeverFault :=
  fun _ h => step_noFault h

end Sys2Proof.Machine
end

section
/-! SUPPORT. What a step can do to the block, said once: the updates it is made of, each with what
bounds it (`Updates`), and the two rules that follow for every chain of them: the invariant is kept
(rules R19, R22, R23, R132, R165), and so is the mode once it is configured (rules R22, R197). INIT
stands apart: it gives the block its reset state (rule R191). -/

namespace Sys2Proof.Machine

/-! ### The updates -/

/-- A queue in canonical form and within its bounds (rules R19, R42). -/
structure Ring.Sound {α : Type} [DecidableEq α] (z : α) (q : Ring α) : Prop where
  canonical : Memory.wf z qcap q.buf = true
  bounded : q.ok

/-- `t` comes from `s` by updates of the kinds an operation other than INIT is made of. What bounds
an update is said of the state it is made in; a job's bounds may rest on the invariant of `s`. -/
inductive Updates (s : State) : State → Prop
  | refl : Updates s s
  | agents {t : State} (h : Updates s t) (port : Agent) (rxs : List Byte) (schedule : List Turn)
      (hostProg prodProg : List Command) :
      Updates s { t with
        port := port, rxs := rxs, schedule := schedule, hostProg := hostProg
        prodProg := prodProg }
  | respond {t : State} (h : Updates s t) (r : Response) : Updates s (respond t r)
  | label {t : State} (h : Updates s t) (l : Label) : Updates s (label l t)
  | emit {t : State} (h : Updates s t) (bs : List Byte) : Updates s (txEmit bs t)
  | drop {t : State} (h : Updates s t) : Updates s (dropConnection t)
  | connection {t : State} (h : Updates s t) (active isMonome probing : Bool) :
      Updates s { t with active := active, isMonome := isMonome, probing := probing }
  | job {t : State} (h : Updates s t) (j : Job) (hj : s.Inv → State.jobOk { t with job := j }) :
      Updates s { t with job := j }
  | gridQueue {t : State} (h : Updates s t) (q : Ring GridEvent)
      (hq : t.gq.Sound GridEvent.zero → q.Sound GridEvent.zero) : Updates s { t with gq := q }
  | arcQueue {t : State} (h : Updates s t) (q : Ring ArcEvent)
      (hq : t.aq.Sound ArcEvent.zero → q.Sound ArcEvent.zero) : Updates s { t with aq := q }
  | led {t : State} (h : Updates s t) (m : Memory Byte)
      (hm : Memory.wf 0 ledn t.led = true → Memory.wf 0 ledn m = true) :
      Updates s { t with led := m }
  | tilt {t : State} (h : Updates s t) (m : Memory TiltRec)
      (hm : Memory.wf TiltRec.zero ntilt t.tilt = true →
        Memory.wf TiltRec.zero ntilt m = true) :
      Updates s { t with tilt := m }
  | deviceId {t : State} (h : Updates s t) (m : Memory Byte)
      (hm : Memory.wf 0 t.cfg.profile.idLen t.deviceId = true →
        Memory.wf 0 t.cfg.profile.idLen m = true) :
      Updates s { t with deviceId := m }
  | framer {t : State} (h : Updates s t) (f : Framer)
      (hm : Memory.wf 0 t.cfg.profile.maxPlen t.rx.buf = true →
        Memory.wf 0 t.cfg.profile.maxPlen f.buf = true)
      (hf : t.framerOk → State.framerOk { t with rx := f }) :
      Updates s { t with rx := f }
  | dirty {t : State} (h : Updates s t) (g a : Bool)
      (hg : g = true → t.gridDirty = true ∨ gridMode t = true)
      (ha : a = true → t.arcDirty = true ∨ arcMode t = true) :
      Updates s { t with gridDirty := g, arcDirty := a }
  | gridSize {t : State} (h : Updates s t) (r c : Byte)
      (hrc : r = 0 ∨ c = 0 ∨ r.toNat * c.toNat ≤ ledn)
      (hg : gridMode t = true → 1 ≤ r.toNat ∧ 1 ≤ c.toNat) :
      Updates s { t with rows := r, columns := c }
  | rings {t : State} (h : Updates s t) (e : Byte)
      (he : arcMode t = true → 1 ≤ e.toNat ∧ e.toNat ≤ arcRings) :
      Updates s { t with encoders := e }
  | rotation {t : State} (h : Updates s t) (r : BitVec 2) : Updates s { t with rotation := r }
  | setupGrid {t : State} (h : Updates s t) (ha : arcMode t = false)
      (hd : 1 ≤ t.rows.toNat ∧ 1 ≤ t.columns.toNat ∧ t.rows.toNat * t.columns.toNat ≤ ledn) :
      Updates s { t with configured := true, isGrid := true, active := true }
  | setupArc {t : State} (h : Updates s t) (hg : gridMode t = false)
      (hd : 1 ≤ t.encoders.toNat ∧ t.encoders.toNat ≤ arcRings) :
      Updates s { t with configured := true, isGrid := false, active := true }

/-! ### Every update keeps the invariant -/

section
variable {t : State}

theorem State.Inv.withFramer (h : t.Inv) {f : Framer}
    (hm : Memory.wf 0 t.cfg.profile.maxPlen f.buf = true)
    (hf : State.framerOk { t with rx := f }) : State.Inv { t with rx := f } := by
  obtain ⟨hgq, haq, hled, -, htilt, hid⟩ := h.memory
  exact { h with memory := ⟨hgq, haq, hled, hm, htilt, hid⟩, framer := hf }

theorem State.Inv.framerIdle (h : t.Inv) : (framerIdle t).Inv := by
  obtain ⟨-, -, -, hrx, -, -⟩ := h.memory
  exact h.withFramer hrx nofun

theorem State.Inv.dropConnection (h : t.Inv) : (dropConnection t).Inv :=
  { h.framerIdle with }

theorem State.Inv.withGridQueue (h : t.Inv) {q : Ring GridEvent}
    (hq : t.gq.Sound GridEvent.zero → q.Sound GridEvent.zero) :
    State.Inv { t with gq := q } := by
  obtain ⟨hgq, haq, hled, hrx, htilt, hid⟩ := h.memory
  obtain ⟨hbuf, hok⟩ := hq ⟨hgq, h.gridQueue⟩
  exact { h with memory := ⟨hbuf, haq, hled, hrx, htilt, hid⟩, gridQueue := hok }

theorem State.Inv.withArcQueue (h : t.Inv) {q : Ring ArcEvent}
    (hq : t.aq.Sound ArcEvent.zero → q.Sound ArcEvent.zero) :
    State.Inv { t with aq := q } := by
  obtain ⟨hgq, haq, hled, hrx, htilt, hid⟩ := h.memory
  obtain ⟨hbuf, hok⟩ := hq ⟨haq, h.arcQueue⟩
  exact { h with memory := ⟨hgq, hbuf, hled, hrx, htilt, hid⟩, arcQueue := hok }

theorem State.Inv.withLed (h : t.Inv) {m : Memory Byte}
    (hm : Memory.wf 0 ledn t.led = true → Memory.wf 0 ledn m = true) :
    State.Inv { t with led := m } := by
  obtain ⟨hgq, haq, hled, hrx, htilt, hid⟩ := h.memory
  exact { h with memory := ⟨hgq, haq, hm hled, hrx, htilt, hid⟩ }

theorem State.Inv.withTilt (h : t.Inv) {m : Memory TiltRec}
    (hm : Memory.wf TiltRec.zero ntilt t.tilt = true → Memory.wf TiltRec.zero ntilt m = true) :
    State.Inv { t with tilt := m } := by
  obtain ⟨hgq, haq, hled, hrx, htilt, hid⟩ := h.memory
  exact { h with memory := ⟨hgq, haq, hled, hrx, hm htilt, hid⟩ }

theorem State.Inv.withDeviceId (h : t.Inv) {m : Memory Byte}
    (hm : Memory.wf 0 t.cfg.profile.idLen t.deviceId = true →
      Memory.wf 0 t.cfg.profile.idLen m = true) :
    State.Inv { t with deviceId := m } := by
  obtain ⟨hgq, haq, hled, hrx, htilt, hid⟩ := h.memory
  exact { h with memory := ⟨hgq, haq, hled, hrx, htilt, hm hid⟩ }

theorem State.Inv.withDirty (h : t.Inv) {g a : Bool}
    (hg : g = true → t.gridDirty = true ∨ gridMode t = true)
    (ha : a = true → t.arcDirty = true ∨ arcMode t = true) :
    State.Inv { t with gridDirty := g, arcDirty := a } :=
  { h with
    dirty := ⟨fun e => (hg e).elim h.dirty.1 id, fun e => (ha e).elim h.dirty.2 id⟩ }

theorem State.Inv.withGridSize (h : t.Inv) {r c : Byte}
    (hrc : r = 0 ∨ c = 0 ∨ r.toNat * c.toNat ≤ ledn)
    (hg : gridMode t = true → 1 ≤ r.toNat ∧ 1 ≤ c.toNat) :
    State.Inv { t with rows := r, columns := c } := by
  refine { h with dims := ⟨fun hm => ?_, h.dims.2.1, hrc⟩ }
  obtain ⟨hr, hc⟩ := hg hm
  refine ⟨hr, hc, ?_⟩
  rcases hrc with rfl | rfl | hrc
  · simp at hr
  · simp at hc
  · exact hrc

theorem State.Inv.withRings (h : t.Inv) {e : Byte}
    (he : arcMode t = true → 1 ≤ e.toNat ∧ e.toNat ≤ arcRings) :
    State.Inv { t with encoders := e } :=
  { h with dims := ⟨h.dims.1, he, h.dims.2.2⟩ }

/-- A setup leaves the mode a dirty flag stands for as it is (rules R165, R193, R194). -/
theorem State.Inv.setupGrid (h : t.Inv) (ha : arcMode t = false)
    (hd : 1 ≤ t.rows.toNat ∧ 1 ≤ t.columns.toNat ∧ t.rows.toNat * t.columns.toNat ≤ ledn) :
    State.Inv { t with configured := true, isGrid := true, active := true } :=
  { h with
    mode := nofun
    dims := ⟨fun _ => hd, nofun, .inr (.inr hd.2.2)⟩
    dirty := ⟨fun _ => rfl, fun e => absurd (h.dirty.2 e) (by simp [ha])⟩ }

theorem State.Inv.setupArc (h : t.Inv) (hg : gridMode t = false)
    (hd : 1 ≤ t.encoders.toNat ∧ t.encoders.toNat ≤ arcRings) :
    State.Inv { t with configured := true, isGrid := false, active := true } :=
  { h with
    mode := nofun
    dims := ⟨nofun, fun _ => hd, h.dims.2.2⟩
    dirty := ⟨fun e => absurd (h.dirty.1 e) (by simp [hg]), fun _ => rfl⟩ }

end

/-- A chain of updates keeps the invariant. -/
theorem Updates.inv {s t : State} (h : Updates s t) (hs : s.Inv) : t.Inv := by
  induction h with
  | refl => exact hs
  | agents _ _ _ _ _ _ ih => exact ih.withAgents
  | respond _ _ ih => exact { ih with }
  | label _ _ ih => exact { ih with }
  | emit _ _ ih => exact { ih with }
  | drop _ ih => exact ih.dropConnection
  | connection _ _ _ _ ih => exact { ih with }
  | job _ _ hj ih => exact { ih with job := hj hs }
  | gridQueue _ _ hq ih => exact ih.withGridQueue hq
  | arcQueue _ _ hq ih => exact ih.withArcQueue hq
  | led _ _ hm ih => exact ih.withLed hm
  | tilt _ _ hm ih => exact ih.withTilt hm
  | deviceId _ _ hm ih => exact ih.withDeviceId hm
  | framer _ _ hm hf ih =>
    obtain ⟨-, -, -, hrx, -, -⟩ := ih.memory
    exact ih.withFramer (hm hrx) (hf ih.framer)
  | dirty _ _ _ hg ha ih => exact ih.withDirty hg ha
  | gridSize _ _ _ hrc hg ih => exact ih.withGridSize hrc hg
  | rings _ _ he ih => exact ih.withRings he
  | rotation _ _ ih => exact { ih with }
  | setupGrid _ ha hd ih => exact ih.setupGrid ha hd
  | setupArc _ hg hd ih => exact ih.setupArc hg hd

/-- A chain of updates keeps the mode bits once they are configured: a setup of the other mode is
answered with a condition (rules R193, R194). -/
theorem Updates.mode {s t : State} (h : Updates s t) (hs : s.configured = true) :
    t.configured = true ∧ t.isGrid = s.isGrid := by
  induction h with
  | refl => exact ⟨hs, rfl⟩
  | setupGrid _ ha _ ih =>
    simp only [arcMode, ih.1, Bool.true_and, Bool.not_eq_false'] at ha
    exact ⟨rfl, ha ▸ ih.2⟩
  | setupArc _ hg _ ih =>
    simp only [gridMode, ih.1, Bool.true_and] at hg
    exact ⟨rfl, hg ▸ ih.2⟩
  | _ => assumption

end Sys2Proof.Machine
end

section
/-! SUPPORT. Every operation but INIT is a chain of updates, and so is every step but one in which
HOST issues INIT: by the operations of each chapter of the spec, then by the agents' turns. -/

namespace Sys2Proof.Machine

/-! ### The shared operations -/

section
variable {s t : State}

theorem Updates.done (h : Updates s t) (d2 d1 d0 : Byte) : Updates s (done t d2 d1 d0) :=
  h.respond _

theorem Updates.raise (h : Updates s t) (c : Condition) : Updates s (raise c t) := by
  by_cases hc : c = .transportError
  · subst hc
    exact h.drop.respond _
  · rw [raise_ne_transport hc]
    exact h.respond _

theorem Updates.idle (h : Updates s t) : Updates s { t with job := .idle } :=
  h.job .idle fun _ => trivial

/-- An emission is a chain of updates if what follows its success is one. -/
theorem Updates.emitThen (h : Updates s t) {bs : List Byte} {go : State → State} (sent : Bool)
    (hgo : Updates s (txEmit bs t) → Updates s (go (txEmit bs t))) :
    Updates s (emitThen sent bs t go) := by
  rcases emitThen_cases sent bs t go with ⟨-, he⟩ | ⟨-, he⟩
  · exact he ▸ hgo (h.emit bs)
  · exact he ▸ (h.emit bs).idle.drop.respond _

theorem Updates.emitOnly (h : Updates s t) (bs : List Byte) : Updates s (emitOnly bs t) := by
  unfold Machine.emitOnly
  split
  · exact h.emit bs
  · exact (h.emit bs).drop

/-! ### The event queues (rules R19, R100 to R103) -/

theorem Ring.Sound.push {α : Type} [DecidableEq α] {z : α} {q : Ring α} (h : q.Sound z)
    (hc : q.count ≠ qcap) (e : α) : (q.push z e).Sound z :=
  ⟨Ring.push_wf e h.canonical, h.bounded.1, Nat.lt_of_le_of_ne h.bounded.2 hc⟩

theorem Ring.Sound.pop {α : Type} [DecidableEq α] {z : α} {q : Ring α} (h : q.Sound z) :
    q.pop.Sound z :=
  ⟨h.canonical, Nat.mod_lt _ (by decide), (Nat.sub_le _ _).trans h.bounded.2⟩

theorem Updates.qAddG (h : Updates s t) (e : GridEvent) : Updates s (qAddG e t) := by
  unfold Machine.qAddG
  split
  · exact h.label _
  · exact h.gridQueue _ fun hq => hq.push ‹_› e

theorem Updates.qAddA (h : Updates s t) (e : ArcEvent) : Updates s (qAddA e t) := by
  unfold Machine.qAddA
  split
  · exact h.label _
  · exact h.arcQueue _ fun hq => hq.push ‹_› e

/-! ### The received frames (rules R123 to R130) -/

theorem Updates.malformed (h : Updates s t) : Updates s (malformed t) := h.label _

theorem Updates.keyFrame (h : Updates s t) (v : Bool) (xp yp : Byte) :
    Updates s (keyFrame v xp yp t) := by
  unfold Machine.keyFrame
  split
  · exact h.qAddG _
  · exact h.malformed

theorem Updates.encFrame (h : Updates s t) (n d : Byte) : Updates s (encFrame n d t) := by
  unfold Machine.encFrame
  split
  · exact h.qAddA _
  · exact h.malformed

/-- What the acceptance test of rule R126 says of the new dimensions. -/
theorem dimsOk_iff {r c e : Byte} : dimsOk t r c e = true ↔
    (r = 0 ∨ c = 0 ∨ r.toNat * c.toNat ≤ ledn) ∧
      (gridMode t = true → 1 ≤ r.toNat ∧ 1 ≤ c.toNat) ∧
      (arcMode t = true → 1 ≤ e.toNat ∧ e.toNat ≤ arcRings) := by
  simp [dimsOk, or_assoc, and_assoc, imp_iff_not_or]

theorem Updates.infoCapsFrame (h : Updates s t) (c0 c1 : Byte) :
    Updates s (infoCapsFrame c0 c1 t) := by
  dsimp only [Machine.infoCapsFrame]
  split
  · obtain ⟨hrc, hg, ha⟩ := dimsOk_iff.1 ‹_›
    exact ((h.gridSize _ _ hrc hg).rings _ ha).connection _ _ _
  · exact h.malformed

theorem Updates.infoIdFrame (h : Updates s t) (id : List Byte) :
    Leads (Updates s) (infoIdFrame id t) := by
  unfold Machine.infoIdFrame
  split
  · exact leads_next.2 ((h.deviceId _ fun hm =>
      Memory.writeList_wf hm (by omega)).connection _ _ _)
  · exact leads_fault

theorem Updates.sizeFrame (h : Updates s t) (s0 s1 : Byte) : Updates s (sizeFrame s0 s1 t) := by
  unfold Machine.sizeFrame
  split_ifs with ha he hg
  · exact h.rings s0 fun _ => he
  · exact h.malformed
  · obtain ⟨h0, h1, harea⟩ := hg
    exact h.gridSize s1 s0 (.inr (.inr (by rwa [Nat.mul_comm]))) fun _ => ⟨h1, h0⟩
  · exact h.malformed

theorem Updates.rotFrame (h : Updates s t) (r : Byte) : Updates s (rotFrame r t) := by
  unfold Machine.rotFrame
  split
  · exact h.rotation _
  · exact h.malformed

theorem Updates.dispatchFrame (h : Updates s t) (k : RxKind) (pl : List Byte) :
    Leads (Updates s) (dispatchFrame k pl t) := by
  intro u hu
  rcases dispatchFrame_cases hu with ⟨v, xp, yp, -, -, rfl⟩ | ⟨n, d, -, -, rfl⟩ |
    ⟨c0, c1, -, -, rfl⟩ | ⟨rfl, -, -⟩ | ⟨s0, s1, -, -, rfl⟩ | ⟨r, -, -, rfl⟩ | ⟨n, -, rfl⟩
  · exact h.keyFrame v xp yp
  · exact h.encFrame n d
  · exact h.infoCapsFrame c0 c1
  · rw [dispatchFrame_infoId] at hu
    exact h.infoIdFrame pl u hu
  · exact h.sizeFrame s0 s1
  · exact h.rotFrame r
  · exact h

/-! ### The framer (rule R122) -/

/-! A frame's effect does not look at the sequencer's state, so the framer may go to `IDLE` before
it as well as after it. -/

theorem qAddG_framerIdle (e : GridEvent) (t : State) :
    qAddG e (framerIdle t) = framerIdle (qAddG e t) := by
  simp only [qAddG, apply_ite framerIdle]; rfl

theorem qAddA_framerIdle (e : ArcEvent) (t : State) :
    qAddA e (framerIdle t) = framerIdle (qAddA e t) := by
  simp only [qAddA, apply_ite framerIdle]; rfl

theorem keyFrame_framerIdle (v : Bool) (xp yp : Byte) (t : State) :
    keyFrame v xp yp (framerIdle t) = framerIdle (keyFrame v xp yp t) := by
  simp only [keyFrame, apply_ite framerIdle, ← qAddG_framerIdle]; rfl

theorem encFrame_framerIdle (n d : Byte) (t : State) :
    encFrame n d (framerIdle t) = framerIdle (encFrame n d t) := by
  simp only [encFrame, apply_ite framerIdle, ← qAddA_framerIdle]; rfl

theorem infoCapsFrame_framerIdle (c0 c1 : Byte) (t : State) :
    infoCapsFrame c0 c1 (framerIdle t) = framerIdle (infoCapsFrame c0 c1 t) := by
  simp only [infoCapsFrame, apply_ite framerIdle]; rfl

theorem sizeFrame_framerIdle (s0 s1 : Byte) (t : State) :
    sizeFrame s0 s1 (framerIdle t) = framerIdle (sizeFrame s0 s1 t) := by
  simp only [sizeFrame, apply_ite framerIdle]; rfl

theorem rotFrame_framerIdle (r : Byte) (t : State) :
    rotFrame r (framerIdle t) = framerIdle (rotFrame r t) := by
  simp only [rotFrame, apply_ite framerIdle]; rfl

theorem dispatchFrame_framerIdle {k : RxKind} {pl : List Byte} {u : State}
    (hu : dispatchFrame k pl t = .next u) :
    dispatchFrame k pl (framerIdle t) = .next (framerIdle u) := by
  rcases dispatchFrame_cases hu with ⟨v, xp, yp, rfl, rfl, rfl⟩ | ⟨n, d, rfl, rfl, rfl⟩ |
    ⟨c0, c1, rfl, rfl, rfl⟩ | ⟨rfl, hl, rfl⟩ | ⟨s0, s1, rfl, rfl, rfl⟩ | ⟨r, rfl, rfl, rfl⟩ |
    ⟨n, rfl, rfl⟩
  · rw [← keyFrame_framerIdle]; rfl
  · rw [← encFrame_framerIdle]; rfl
  · rw [← infoCapsFrame_framerIdle]; rfl
  · rw [dispatchFrame_infoId]
    exact if_pos hl
  · rw [← sizeFrame_framerIdle]; rfl
  · rw [← rotFrame_framerIdle]; rfl
  · exact dispatchFrame_skip _ _ _

theorem Updates.rxStart (h : Updates s t) (b : Byte) : Leads (Updates s) (rxStart b t) := by
  intro u hu
  rcases rxStart_cases hu with ⟨-, rfl⟩ | ⟨e, -, -, hd⟩ | ⟨e, he, hne, rfl⟩
  · exact h.label _
  · exact h.dispatchFrame _ _ u hd
  · exact h.framer _ id fun _ _ => ⟨e, he, rfl, Nat.pos_of_ne_zero hne⟩

theorem Updates.rxCollect (h : Updates s t) (b : Byte) : Leads (Updates s) (rxCollect b t) := by
  intro u hu
  obtain ⟨hfit, hcase⟩ := rxCollect_cases hu
  have hbuf : Memory.wf 0 t.cfg.profile.maxPlen t.rx.buf = true →
      Memory.wf 0 t.cfg.profile.maxPlen (storePayload b t).rx.buf = true :=
    fun hm => Memory.write_wf hm hfit
  rcases hcase with ⟨hmore, rfl⟩ | ⟨-, e, v, -, hd, rfl⟩
  · refine h.framer _ hbuf fun hf hc => ?_
    obtain ⟨e, he, hneed, hcnt⟩ := hf hc
    exact ⟨e, he, hneed, Nat.lt_of_le_of_ne hcnt hmore⟩
  · have hstored : Updates s (framerIdle (storePayload b t)) := h.framer _ hbuf fun _ => nofun
    exact hstored.dispatchFrame _ _ _ (dispatchFrame_framerIdle hd)

theorem Updates.rxStep (h : Updates s t) (b : Byte) : Leads (Updates s) (rxStep b t) := by
  unfold Machine.rxStep
  split
  · exact h.rxStart b
  · exact h.rxCollect b

/-! ### POLL and RXBYTE (rules R120, R121) -/

theorem Updates.pollTurn (h : Updates s t) (k n : Nat) : Leads (Updates s) (pollTurn k n t) := by
  intro u hu
  rcases pollTurn_cases hu with rfl | ⟨hlt, -, b, rest, v, -, hv, rfl⟩
  · exact h.idle.done _ _ _
  · have htaken : Updates s { t with rxs := rest } := h.agents _ _ _ _ _
    exact (htaken.rxStep b v hv).job _ fun _ => hlt

theorem Updates.execPoll (h : Updates s t) : Leads (Updates s) (execPoll t) := by
  unfold Machine.execPoll
  split
  · exact leads_next.2 (h.raise _)
  · exact leads_next.2 (h.job _ fun _ => Nat.zero_le _)

theorem Updates.execRxbyte (h : Updates s t) : Leads (Updates s) (execRxbyte t) := by
  unfold Machine.execRxbyte
  split
  · exact leads_next.2 (h.raise _)
  · split
    · exact leads_next.2 (h.done _ _ _)
    · rename_i b rest _
      have htaken : Updates s { t with rxs := rest } := h.agents _ _ _ _ _
      exact (htaken.rxStep b).andThen fun v hv => leads_next.2 (hv.done _ _ _)

/-! ### The reads of the event queues (rules R102, R103) -/

theorem Updates.execRdg (h : Updates s t) : Leads (Updates s) (execRdg t) := by
  unfold Machine.execRdg
  split_ifs
  · exact leads_next.2 (h.raise _)
  · exact leads_next.2 ((h.gridQueue _ Ring.Sound.pop).done _ _ _)
  · exact leads_fault

theorem Updates.execRda (h : Updates s t) : Leads (Updates s) (execRda t) := by
  unfold Machine.execRda
  split_ifs
  · exact leads_next.2 (h.raise _)
  · exact leads_next.2 ((h.arcQueue _ Ring.Sound.pop).done _ _ _)
  · exact leads_fault

/-! ### The LedFrame mutators (rules R151 to R158) -/

theorem Updates.setGridLed (h : Updates s t) (x y level : Byte) :
    Leads (Updates s) (setGridLed x y level t) := by
  unfold Machine.setGridLed
  split_ifs with hmode _ hcell
  · exact leads_next.2 (h.raise _)
  · exact leads_next.2 (h.raise _)
  · have hgrid : gridMode t = true := by simpa using hmode
    have hlit := h.led _ fun hm => Memory.write_wf (v := level) hm hcell
    exact leads_next.2 ((hlit.dirty true t.arcDirty (fun _ => .inr hgrid) .inl).done _ _ _)
  · exact leads_fault

theorem Updates.setArcLed (h : Updates s t) (ring led level : Byte) :
    Leads (Updates s) (setArcLed ring led level t) := by
  unfold Machine.setArcLed
  split_ifs with hmode _ hcell
  · exact leads_next.2 (h.raise _)
  · exact leads_next.2 (h.raise _)
  · have harc : arcMode t = true := by simpa using hmode
    have hlit := h.led _ fun hm => Memory.write_wf (v := level) hm hcell
    exact leads_next.2 ((hlit.dirty t.gridDirty true .inl fun _ => .inr harc).done _ _ _)
  · exact leads_fault

theorem Updates.ledFill (h : Updates s t) {a k : Nat} (v : Byte) (ha : a + k ≤ ledn) :
    Updates s { t with led := Memory.fill 0 t.led a k v } :=
  h.led _ fun hm => Memory.fill_wf hm ha

theorem Updates.setAllLeds (h : Updates s t) (level : Byte) :
    Leads (Updates s) (setAllLeds level t) := by
  unfold Machine.setAllLeds
  split_ifs with hmode
  · exact leads_next.2 (h.raise _)
  · have hconf : t.configured = true := by simpa using hmode
    have hgrid : (t.gridDirty || t.isGrid) = true → t.gridDirty = true ∨ gridMode t = true := by
      simp [gridMode, hconf]
    have harc : (t.arcDirty || !t.isGrid) = true → t.arcDirty = true ∨ arcMode t = true := by
      simp [arcMode, hconf]
    exact leads_next.2
      (((h.dirty _ _ hgrid harc).ledFill (a := 0) (k := ledn) level (le_refl ledn)).done _ _ _)

theorem Updates.execClrring (h : Updates s t) (ring : Byte) :
    Leads (Updates s) (execClrring ring t) := by
  unfold Machine.execClrring
  split_ifs with hmode _ hcells
  · exact leads_next.2 (h.raise _)
  · exact leads_next.2 (h.raise _)
  · have harc : arcMode t = true := by simpa using hmode
    have hdue := h.dirty t.gridDirty true .inl fun _ => .inr harc
    exact leads_next.2
      ((hdue.ledFill (a := ledIndexArc ring.toNat 0) (k := ringLeds) 0 hcells).done _ _ _)
  · exact leads_fault

/-! ### The refresh loops (rules R159 to R161) -/

/-- A flag that is cleared needs no bound. -/
theorem Updates.gridClean (h : Updates s t) : Updates s { t with gridDirty := false } :=
  h.dirty false t.arcDirty nofun .inl

theorem Updates.arcClean (h : Updates s t) : Updates s { t with arcDirty := false } :=
  h.dirty t.gridDirty false .inl nofun

theorem Updates.arcDone (h : Updates s t) : Updates s (arcDone t) := h.arcClean.idle.done _ _ _

/-- The arc part of REFRESH starts only where the arc flag is set, which bounds its rings. -/
theorem Updates.gridDone (h : Updates s t) (thenArc : Bool) : Updates s (gridDone thenArc t) := by
  unfold Machine.gridDone
  split_ifs with hboth
  · rw [Bool.and_eq_true] at hboth
    obtain ⟨-, hdue⟩ := hboth
    refine h.gridClean.job _ fun hs => ?_
    have harc : arcMode t = true := (h.inv hs).dirty.2 hdue
    obtain ⟨hpos, hle⟩ := (h.inv hs).dims.2.1 harc
    exact ⟨hle, hpos⟩
  · exact h.gridClean.idle.done _ _ _

theorem Updates.gridTurn (h : Updates s t) (sent : Bool) (w h' quad : Nat) (thenArc : Bool) :
    Leads (Updates s) (gridTurn sent w h' quad thenArc t) := by
  intro u hu
  obtain ⟨harea, ⟨-, rfl⟩ | ⟨-, rfl⟩⟩ := gridTurn_cases hu
  · refine h.emitThen sent fun hsent => ?_
    split_ifs with hmore
    · exact hsent.job _ fun _ => ⟨harea, hmore⟩
    · exact hsent.gridDone thenArc
  · exact h.gridDone thenArc

theorem Updates.arcTurn (h : Updates s t) (sent : Bool) {rings : Nat} (ring : Nat)
    (hr : s.Inv → rings ≤ arcRings) : Leads (Updates s) (arcTurn sent rings ring t) := by
  intro u hu
  obtain ⟨-, -, rfl⟩ | ⟨-, rfl⟩ := arcTurn_cases hu
  · refine h.emitThen sent fun hsent => ?_
    split_ifs with hmore
    · exact hsent.job _ fun hs => ⟨hr hs, hmore⟩
    · exact hsent.arcDone
  · exact h.arcDone

theorem Updates.execRefreshg (h : Updates s t) : Leads (Updates s) (execRefreshg t) := by
  unfold Machine.execRefreshg
  split_ifs
  · exact leads_next.2 (h.raise _)
  · exact leads_next.2 (h.done _ _ _)
  · exact h.gridTurn _ _ _ _ _

theorem Updates.execRefresha (h : Updates s t) : Leads (Updates s) (execRefresha t) := by
  unfold Machine.execRefresha
  split_ifs with _ hd
  · exact leads_next.2 (h.raise _)
  · exact leads_next.2 (h.done _ _ _)
  · exact h.arcTurn _ _ fun hs => (h.inv hs).arcDirty_rings (by simpa using hd)

theorem Updates.execRefresh (h : Updates s t) : Leads (Updates s) (execRefresh t) := by
  unfold Machine.execRefresh
  split_ifs with _ hd hg
  · exact leads_next.2 (h.raise _)
  · exact leads_next.2 (h.done _ _ _)
  · exact h.gridTurn _ _ _ _ _
  · exact h.arcTurn _ _ fun hs => (h.inv hs).arcDirty_rings (by simpa [hg] using hd)

/-! ### The explicit senders and the controller (rules R162, R163, R192 to R196) -/

theorem Updates.execSendsize (h : Updates s t) : Leads (Updates s) (execSendsize t) := by
  unfold Machine.execSendsize
  split_ifs
  · exact leads_next.2 (h.raise _)
  · exact leads_next.2 (h.raise _)
  · exact leads_next.2 (h.emitThen _ fun hsent => hsent.done _ _ _)

theorem Updates.execSendrot (h : Updates s t) : Leads (Updates s) (execSendrot t) := by
  unfold Machine.execSendrot
  split
  · exact leads_next.2 (h.raise _)
  · exact leads_next.2 (h.emitThen _ fun hsent => hsent.done _ _ _)

theorem Updates.execGetinfo (h : Updates s t) : Leads (Updates s) (execGetinfo t) :=
  leads_next.2 (h.emitThen _ fun hsent => (hsent.connection t.active t.isMonome true).done _ _ _)

theorem Updates.execSetupg (h : Updates s t) (rows columns : Byte) :
    Leads (Updates s) (execSetupg rows columns t) := by
  unfold Machine.execSetupg
  split_ifs with hmode hd
  · exact leads_next.2 (h.raise _)
  · have harc : arcMode t = false := by simpa using hmode
    have hsize := h.gridSize rows columns (.inr (.inr hd.2.2)) fun _ => ⟨hd.1, hd.2.1⟩
    exact leads_next.2 ((hsize.setupGrid harc hd).done _ _ _)
  · exact leads_next.2 (h.raise _)

theorem Updates.execSetupa (h : Updates s t) (encoders : Byte) :
    Leads (Updates s) (execSetupa encoders t) := by
  unfold Machine.execSetupa
  split_ifs with hmode hd
  · exact leads_next.2 (h.raise _)
  · have hgrid : gridMode t = false := by simpa using hmode
    have hsize := h.rings encoders fun _ => hd
    exact leads_next.2 ((hsize.setupArc hgrid hd).done _ _ _)
  · exact leads_next.2 (h.raise _)

theorem Updates.execSetrot (h : Updates s t) (r : Byte) : Leads (Updates s) (execSetrot r t) := by
  unfold Machine.execSetrot
  split
  · exact leads_next.2 (h.raise _)
  · exact leads_next.2 ((h.rotation _).done _ _ _)

theorem Updates.execRdreg (h : Updates s t) (n : Byte) : Leads (Updates s) (execRdreg n t) := by
  unfold Machine.execRdreg
  split
  · exact leads_next.2 (h.done _ _ _)
  · exact leads_next.2 (h.raise _)

/-! ### The tilt tracker (rules R210, R211) -/

theorem Updates.setTiltRec (h : Updates s t) {sensor : Nat} (hn : sensor < ntilt) (r : TiltRec) :
    Updates s (setTiltRec t sensor r) :=
  h.tilt _ fun hm => Memory.write_wf hm hn

theorem Updates.execSettilt (h : Updates s t) (sensor : Byte) (active : Bool) :
    Leads (Updates s) (execSettilt sensor active t) := by
  unfold Machine.execSettilt
  split
  · exact leads_next.2 (h.raise _)
  · exact leads_next.2 ((h.setTiltRec (Nat.lt_of_not_le ‹_›) _).done _ _ _)

theorem Updates.execSendtilt (h : Updates s t) (sensor : Byte) (x y z : Half) :
    Leads (Updates s) (execSendtilt sensor x y z t) := by
  unfold Machine.execSendtilt
  split_ifs with hn
  · exact leads_next.2 (h.raise _)
  · exact leads_next.2 (h.raise _)
  · exact leads_next.2 (h.done _ _ _)
  · exact leads_next.2 (h.done _ _ _)
  · have hstored := h.setTiltRec (Nat.lt_of_not_le hn)
      { tiltRec t sensor.toNat with reported := true, lastX := x, lastY := y, lastZ := z }
    exact leads_next.2 (hstored.emitThen _ fun hsent => hsent.done _ _ _)

/-! ### The instructions together -/

theorem Updates.exec (h : Updates s t) {i : Instr} (hi : i ≠ .init) :
    Leads (Updates s) (exec i t) := by
  cases i with
  | addg x y pressed => exact leads_next.2 ((h.qAddG _).done _ _ _)
  | adda index delta => exact leads_next.2 ((h.qAddA _).done _ _ _)
  | gavail => exact leads_next.2 (h.done _ _ _)
  | aavail => exact leads_next.2 (h.done _ _ _)
  | rdg => exact h.execRdg
  | rda => exact h.execRda
  | poll => exact h.execPoll
  | rxbyte => exact h.execRxbyte
  | setgled x y level => exact h.setGridLed x y level
  | clrgled x y => exact h.setGridLed x y 0
  | setaled ring led level => exact h.setArcLed ring led level
  | clraled ring led => exact h.setArcLed ring led 0
  | setall level => exact h.setAllLeds level
  | clrall => exact h.setAllLeds 0
  | clrring ring => exact h.execClrring ring
  | refreshg => exact h.execRefreshg
  | refresha => exact h.execRefresha
  | refresh => exact h.execRefresh
  | sendsize => exact h.execSendsize
  | sendrot => exact h.execSendrot
  | init => exact absurd rfl hi
  | getinfo => exact h.execGetinfo
  | setupg rows columns => exact h.execSetupg rows columns
  | setupa encoders => exact h.execSetupa encoders
  | setrot r => exact h.execSetrot r
  | rdreg n => exact h.execRdreg n
  | settilt sensor active => exact h.execSettilt sensor active
  | sendtilt sensor x y z => exact h.execSendtilt sensor x y z
  | rxInfoCaps c0 c1 => exact leads_next.2 (h.infoCapsFrame c0 c1)
  | rxInfoId id => exact h.infoIdFrame id
  | rxSize s0 s1 => exact leads_next.2 (h.sizeFrame s0 s1)
  | rxRot r => exact leads_next.2 (h.rotFrame r)
  | rxKeyup xp yp => exact leads_next.2 (h.keyFrame false xp yp)
  | rxKeydn xp yp => exact leads_next.2 (h.keyFrame true xp yp)
  | rxEnc n d => exact leads_next.2 (h.encFrame n d)
  | txSize p0 p1 => exact leads_next.2 (h.emitOnly _)
  | txRot r => exact leads_next.2 (h.emitOnly _)
  | txGmap xo yo levels => exact leads_next.2 (h.emitOnly _)
  | txAmap ring levels => exact leads_next.2 (h.emitOnly _)
  | txTilt sensor x y z => exact leads_next.2 (h.emitOnly _)
  | txQuery => exact leads_next.2 (h.emitOnly _)

/-! ### The agents' turns and the step (rules R51, R52, R63) -/

/-- HOST issues INIT in the next step. -/
def State.IssuesInit (s : State) : Prop :=
  s.job = .idle ∧ (s.schedule = [] ∨ ∃ turns, s.schedule = .host :: turns) ∧
    ∃ cw rest, s.hostProg = cw :: rest ∧ decodeCommand cw = .ok .init

/-- A command word other than INIT's is run by updates, an illegal one among them. -/
theorem Updates.issue (h : Updates s t) {a : Agent} {cw : Command} {u : State}
    (hu : issue a cw t = .next u) :
    Updates s u ∨
      (a = .host ∧ decodeCommand cw = .ok .init ∧ u = Machine.done (blockReset t) 0 0 0) := by
  rcases issue_cases hu with ⟨i, hd, hp, hx⟩ | ⟨e, -, rfl⟩
  · by_cases hi : i = .init
    · subst hi
      cases a with
      | host => cases hx; exact .inr ⟨rfl, hd, rfl⟩
      | prod => cases hp
    · exact .inl (h.exec hi u hx)
  · exact .inl (h.raise _)

theorem Updates.hostServed (h : Updates s t) {u : State} (hu : hostServed t = .next u) :
    Updates s u ∨
      (t.job = .idle ∧ (∃ cw rest, t.hostProg = cw :: rest ∧ decodeCommand cw = .ok .init) ∧
        ∃ v, v.cfg = t.cfg ∧ u = Machine.done (blockReset v) 0 0 0) := by
  rcases hostServed_cases hu with ⟨-, -, rfl⟩ | ⟨cw, rest, hj, hcw, hi⟩ | ⟨k, n, -, hp⟩ |
    ⟨w, h', quad, thenArc, -, hg⟩ | ⟨rings, ring, hj, ha⟩
  · exact .inl h
  · have hissued : Updates s { t with hostProg := rest } := h.agents _ _ _ _ _
    rcases hissued.issue hi with hup | ⟨-, hd, rfl⟩
    · exact .inl hup
    · exact .inr ⟨hj, ⟨cw, rest, hcw, hd⟩, { t with hostProg := rest }, rfl, rfl⟩
  · exact .inl (h.pollTurn _ _ u hp)
  · exact .inl (h.gridTurn _ _ _ _ _ u hg)
  · refine .inl (h.arcTurn _ _ (fun hs => ?_) u ha)
    have hjob := (h.inv hs).job
    simp only [State.jobOk, hj] at hjob
    exact hjob.1

theorem Updates.prodServed (h : Updates s t) {u : State} (hu : prodServed t = .next u) :
    Updates s u := by
  rcases prodServed_cases hu with ⟨-, rfl⟩ | ⟨cw, rest, -, hi⟩
  · exact h
  · have hissued : Updates s { t with prodProg := rest } := h.agents _ _ _ _ _
    rcases hissued.issue hi with hup | ⟨ha, -, -⟩
    · exact hup
    · cases ha

/-- Everything a step can do: a chain of updates, or the reset of the block where HOST issues INIT.
-/
theorem step_updates (h : step s = .next t) :
    Updates s t ∨
      (s.IssuesInit ∧ ∃ v, v.cfg = s.cfg ∧ t = done (blockReset v) 0 0 0) := by
  obtain ⟨-, ⟨hs, ht⟩ | ⟨rest, hs, ht⟩ | ⟨rest, -, ht⟩ | ⟨b, rest, -, rfl⟩ | ⟨rest, -, rfl⟩⟩ :=
    step_cases h
  · have hserved : Updates s { s with port := .host } := Updates.refl.agents _ _ _ _ _
    rcases hserved.hostServed ht with hup | ⟨hj, hcw, hv⟩
    · exact .inl hup
    · exact .inr ⟨⟨hj, .inl hs, hcw⟩, hv⟩
  · have hserved : Updates s { s with port := .host, schedule := rest } :=
      Updates.refl.agents _ _ _ _ _
    rcases hserved.hostServed ht with hup | ⟨hj, hcw, hv⟩
    · exact .inl hup
    · exact .inr ⟨⟨hj, .inr ⟨rest, hs⟩, hcw⟩, hv⟩
  · have hserved : Updates s { s with port := .prod, schedule := rest } :=
      Updates.refl.agents _ _ _ _ _
    exact .inl (hserved.prodServed ht)
  · exact .inl (Updates.refl.agents _ _ _ _ _)
  · have hturn : Updates s { s with schedule := rest } := Updates.refl.agents _ _ _ _ _
    exact .inl hturn.drop

end

/-! ### The invariant and the mode along a step -/

/-- The block at its reset values meets the invariant under every well-formed profile. -/
theorem blockReset_inv {s : State} (h : s.cfg.profile.wf = true) : (blockReset s).Inv :=
  inv_of_check (by simp [blockReset, State.reset, h, Memory.wf, Memory.wfFrom])
    (by simp [blockReset, State.reset]) (fun _ => rfl) ⟨nofun, nofun, .inl rfl⟩ ⟨nofun, nofun⟩ rfl

/-- Settles O14: a step is a chain of updates, each of which keeps the invariant, or INIT's reset. -/
theorem stepKeepsInvariant : Obligations.StepKeepsInvariant := by
  intro s t hs h
  rcases step_updates h with hup | ⟨-, v, hcfg, rfl⟩
  · exact hup.inv hs
  · exact { blockReset_inv (s := v) (hcfg ▸ hs.profile) with }

/-- Settles O17: a step is a chain of updates, each of which keeps the mode bits of a configured
block, or HOST issues INIT in it. -/
theorem modeIsFixedWhileConfigured : Obligations.ModeIsFixedWhileConfigured := by
  intro s t hs h
  rcases step_updates h with hup | ⟨hinit, -⟩
  · exact .inl (hup.mode hs)
  · exact .inr hinit

/-- Settles O13: power-on is the block's reset under the default profile. -/
theorem resetSatisfiesInvariant : Obligations.ResetSatisfiesInvariant :=
  blockReset_inv (s := State.reset) (by decide)

end Sys2Proof.Machine
end

section
/-! SUPPORT. The reset state, the availability checks and the read views (rules R14, R28, R36, R106,
R107, R191). -/

namespace Sys2Proof.Machine

/-! ### INIT and the reset values (rules R36, R191) -/

theorem decodeCommand_init {cw : Command} (h : opField cw = 0x40) :
    decodeCommand cw = .ok .init := by
  rw [decodeCommand, h]
  rfl

theorem exec_init (s : State) : exec .init s = .next (done (blockReset s) 0 0 0) := rfl

/-- Settles O52: the meaning of INIT is the block's reset. -/
theorem initReturnsToReset : Obligations.InitReturnsToReset :=
  ⟨fun _ => decodeCommand_init, exec_init⟩

/-- Settles O12: INIT's state has the fields of power-on but for those that are no state of the
block. -/
theorem resetHoldsSpecValues : Obligations.ResetHoldsSpecValues := by
  intro s t h
  rcases h with rfl | h
  on_goal 2 => cases h
  all_goals
    exact ⟨rfl, rfl, rfl, rfl, fun _ => rfl, rfl, rfl, rfl, rfl, rfl, rfl, rfl, rfl, rfl, rfl, rfl,
      fun _ => rfl, fun _ => ⟨rfl, rfl, rfl, rfl, rfl⟩, rfl⟩

/-! ### The derived flags (rule R14) -/

theorem Ring.avail_eq {α : Type} (q : Ring α) : q.avail = decide (q.count ≠ 0) := by
  by_cases h : q.count = 0 <;> simp [Ring.avail, h]

theorem Ring.full_eq {α : Type} (q : Ring α) : q.full = decide (q.count = qcap) := by
  by_cases h : q.count = qcap <;> simp [Ring.full, h]

theorem bitByte_avail {α : Type} (q : Ring α) :
    bitByte q.avail = if q.count = 0 then 0 else 1 := by
  by_cases h : q.count = 0 <;> simp [Ring.avail_eq, bitByte, h]

/-- Settles O22: the answer is the derived flag of rule R14. -/
theorem availabilityChecksAnswer : Obligations.AvailabilityChecksAnswer := by
  intro s
  simp only [exec, execGavail, execAavail, bitByte_avail]
  exact ⟨rfl, rfl⟩

/-! ### The read views (rule R28) -/

/-- A flag appended on the right of a view is its bit 0 and moves the others up by one. -/
theorem getLsbD_append_ofBool {w : Nat} (x : BitVec w) (b : Bool) (i : Nat) :
    (x ++ BitVec.ofBool b).getLsbD i = if i = 0 then b else x.getLsbD (i - 1) :=
  BitVec.getLsbD_concat x b i

theorem toNat_append_ofBool {w : Nat} (x : BitVec w) (b : Bool) :
    (x ++ BitVec.ofBool b).toNat = x.toNat * 2 + b.toNat :=
  BitVec.toNat_concat x b

/-- A view of four flags leaves bits 7:4 zero. -/
theorem nibble_lt (b3 b2 b1 b0 : Bool) :
    (0#4 ++ BitVec.ofBool b3 ++ BitVec.ofBool b2 ++ BitVec.ofBool b1
      ++ BitVec.ofBool b0).toNat < 16 := by
  have h3 := b3.toNat_lt
  have h2 := b2.toNat_lt
  have h1 := b1.toNat_lt
  have h0 := b0.toNat_lt
  simp only [toNat_append_ofBool, BitVec.toNat_ofNat]
  omega

theorem rxBusy_eq (s : State) : rxBusy s = decide (s.rx.state = .collect) := by
  unfold rxBusy; cases s.rx.state <;> rfl

theorem statusView_bits (s : State) :
    (statusView s).getLsbD 0 = s.active ∧ (statusView s).getLsbD 1 = s.isMonome
      ∧ (statusView s).getLsbD 2 = s.isGrid ∧ (statusView s).getLsbD 3 = s.configured
      ∧ (statusView s).getLsbD 4 = s.probing ∧ (statusView s).getLsbD 5 = s.gridDirty
      ∧ (statusView s).getLsbD 6 = s.arcDirty
      ∧ (statusView s).getLsbD 7 = decide (s.rx.state = .collect) := by
  simp only [statusView, getLsbD_append_ofBool, BitVec.getLsbD_ofBool, rxBusy_eq]
  simp

theorem qstatView_bits (s : State) :
    (qstatView s).getLsbD 0 = decide (s.gq.count ≠ 0)
      ∧ (qstatView s).getLsbD 1 = decide (s.gq.count = 50)
      ∧ (qstatView s).getLsbD 2 = decide (s.aq.count ≠ 0)
      ∧ (qstatView s).getLsbD 3 = decide (s.aq.count = 50) := by
  simp only [qstatView, getLsbD_append_ofBool, Ring.avail_eq, Ring.full_eq]
  simp

theorem tiltActView_bits (s : State) {n : Nat} (hn : n < 4) :
    (tiltActView s).getLsbD n = (tiltRec s n).active := by
  have hcases : n = 0 ∨ n = 1 ∨ n = 2 ∨ n = 3 := by omega
  simp only [tiltActView, getLsbD_append_ofBool]
  rcases hcases with rfl | rfl | rfl | rfl <;> simp

/-- ROTATION's bits 7:2 are zero. -/
theorem rotation_byte (r : BitVec 2) : r.setWidth 8 = (0 : BitVec 6) ++ r := by
  revert r; decide

theorem exec_rdreg_rotation (s : State) :
    exec (.rdreg 5) s = .next (respond s ⟨0, 0, 0, (0 : BitVec 6) ++ s.rotation⟩) := by
  rw [← rotation_byte]; rfl

/-- Settles O56: each bit of a view is the flag at its place, and RDREG answers the view itself. -/
theorem readViewsShowTheFlags : Obligations.ReadViewsShowTheFlags := by
  intro s
  obtain ⟨hg0, hg1, ha0, ha1⟩ := qstatView_bits s
  exact ⟨statusView_bits s, ⟨hg0, hg1, ha0, ha1, nibble_lt _ _ _ _⟩,
    ⟨fun _ => tiltActView_bits s, nibble_lt _ _ _ _⟩, rfl, rfl, rfl, exec_rdreg_rotation s⟩

end Sys2Proof.Machine
end

section
/-! SUPPORT. The tilt tracker's samples (rules R31, R211, R212): what SENDTILT does in each of its
cases, and what a stored sample reads as. -/

namespace Sys2Proof.Machine

/-! ### The tilt cache -/

/-- What the cache holds after a record is replaced. -/
theorem tiltRec_setTiltRec {s : State} (hw : Memory.wf TiltRec.zero ntilt s.tilt = true)
    (n k : Nat) (r : TiltRec) :
    tiltRec (setTiltRec s n r) k = if k = n then r else tiltRec s k := by
  simp only [tiltRec, setTiltRec_tilt, Memory.read_write hw, eq_comm (a := n)]

/-- A sample of an active sensor fills its record and leaves the others. -/
theorem tiltRec_storeTilt {s : State} (hw : Memory.wf TiltRec.zero ntilt s.tilt = true) {n : Nat}
    (hon : (tiltRec s n).active = true) (x y z : Half) (k : Nat) :
    tiltRec (storeTilt s n x y z) k = if k = n then ⟨true, true, x, y, z⟩ else tiltRec s k := by
  rw [storeTilt, tiltRec_setTiltRec hw]
  simp only [hon]

theorem tiltSuppressed_iff {r : TiltRec} {x y z : Half} : tiltSuppressed r x y z = true ↔
    r.reported = true ∧ r.lastX = x ∧ r.lastY = y ∧ r.lastZ = z := by
  simp [tiltSuppressed, and_assoc]

/-! ### The cases of SENDTILT -/

section
variable {s : State} {n : Byte} {x y z : Half}

/-- A sample of a sensor that is off changes nothing. -/
theorem exec_sendtilt_off (hn : n.toNat < ntilt) (ha : s.active = true)
    (hoff : (tiltRec s n.toNat).active = false) :
    exec (.sendtilt n x y z) s = .next (done s 0 0 0) := by
  simp [exec, execSendtilt, Nat.not_le.2 hn, ha, hoff]

/-- A sample that repeats the stored one changes nothing. -/
theorem exec_sendtilt_repeated (hn : n.toNat < ntilt) (ha : s.active = true)
    (hrep : tiltSuppressed (tiltRec s n.toNat) x y z = true) :
    exec (.sendtilt n x y z) s = .next (done s 0 0 0) := by
  simp [exec, execSendtilt, Nat.not_le.2 hn, ha, hrep]

/-- The state after a new sample of an active sensor whose emission ENV takes. -/
def tiltSent (s : State) (n : Byte) (x y z : Half) : State :=
  done (txEmit (frameBytes s .tilt (tiltPayload s.cfg.profile n x y z))
    (storeTilt s n.toNat x y z)) 0 0 1

/-- A new sample of an active sensor is stored, and its frame sent where ENV takes it. -/
theorem exec_sendtilt_new (hn : n.toNat < ntilt) (ha : s.active = true)
    (hon : (tiltRec s n.toNat).active = true)
    (hnew : ¬ tiltSuppressed (tiltRec s n.toNat) x y z = true) (hok : nextOutcome s = .ok) :
    exec (.sendtilt n x y z) s = .next (tiltSent s n x y z) := by
  have hsent : nextOutcome (storeTilt s n.toNat x y z) = .ok := hok
  simp [exec, execSendtilt, Nat.not_le.2 hn, ha, hon, hnew, emitThen_ok hsent, tiltSent]

theorem tiltSent_txs (hok : nextOutcome s = .ok) :
    (tiltSent s n x y z).txs = s.txs ++ [s.cfg.profile.txTilt.cmd, n]
      ++ axisBytes s.cfg.profile.tiltOrder x ++ axisBytes s.cfg.profile.tiltOrder y
      ++ axisBytes s.cfg.profile.tiltOrder z := by
  have hsent : nextOutcome (storeTilt s n.toNat x y z) = .ok := hok
  simp only [tiltSent, done_txs, txEmit_txs, hsent, bytesSent, frameBytes, txFrameBytes,
    Profile.txEntry, tiltPayload, List.append_assoc, List.cons_append, List.nil_append]
  rfl

theorem tiltRec_tiltSent (hw : Memory.wf TiltRec.zero ntilt s.tilt = true)
    (hon : (tiltRec s n.toNat).active = true) (k : Nat) :
    tiltRec (tiltSent s n x y z) k =
      if k = n.toNat then ⟨true, true, x, y, z⟩ else tiltRec s k :=
  tiltRec_storeTilt hw hon x y z k

end

/-! ### The statements -/

/-- Settles O59: by the cases of SENDTILT. -/
theorem sendtiltStoresAndSends : Obligations.SendtiltStoresAndSends := by
  intro s n x y z hn ha hw
  refine ⟨fun hon hnew hok => ?_, exec_sendtilt_off hn ha, fun hr hx hy hz =>
    exec_sendtilt_repeated hn ha (tiltSuppressed_iff.2 ⟨hr, hx, hy, hz⟩)⟩
  rw [← tiltSuppressed_iff] at hnew
  exact ⟨_, exec_sendtilt_new hn ha hon hnew hok, rfl, tiltSent_txs hok,
    tiltRec_tiltSent hw hon⟩

/-- Settles O60: whether the first sample is new or repeats the stored one, the cache holds it when
the second arrives, which is therefore a repeat. -/
theorem identicalTiltSamplesSendOnce : Obligations.IdenticalTiltSamplesSendOnce := by
  intro s t n x y z hn ha hw hon hok ht
  simp only [← tiltSuppressed_iff]
  by_cases hrep : tiltSuppressed (tiltRec s n.toNat) x y z = true
  · rw [exec_sendtilt_repeated hn ha hrep] at ht
    cases ht
    exact ⟨exec_sendtilt_repeated hn ha hrep, fun _ _ _ _ => rfl, fun hnew => absurd hrep hnew⟩
  · rw [exec_sendtilt_new hn ha hon hrep hok] at ht
    cases ht
    have hstored : tiltSuppressed (tiltRec (tiltSent s n x y z) n.toNat) x y z = true := by
      rw [tiltRec_tiltSent hw hon, if_pos rfl]
      exact tiltSuppressed_iff.2 ⟨rfl, rfl, rfl, rfl⟩
    exact ⟨exec_sendtilt_repeated hn ha hstored,
      fun hr hx hy hz => absurd (tiltSuppressed_iff.2 ⟨hr, hx, hy, hz⟩) hrep,
      fun _ => tiltSent_txs hok⟩

end Sys2Proof.Machine
end

section
/-! SUPPORT. The unspecified cells are unobservable (rules R11, R12, R13, R17): two states with the
same view run alike. Each operation is taken once: what it reads is the same in both states, and what
it writes leaves them with the same view again. -/

namespace Sys2Proof.Machine

/-! ### Two outcomes that cannot be told apart -/

/-- Both outcomes go on, with the same view, or both stop for the same reason. -/
def Alike : Result → Result → Prop
  | .next t, .next u => t.sameView u
  | .fault r, .fault r' => r = r'
  | .refused r, .refused r' => r = r'
  | _, _ => False

theorem Alike.fault (r : Fault) : Alike (.fault r) (.fault r) := rfl

theorem Alike.refused (r : Refusal) : Alike (.refused r) (.refused r) := rfl

theorem Alike.of_next {o : Result} {t : State} (h : Alike (.next t) o) :
    ∃ u, o = .next u ∧ t.sameView u := by
  cases o with
  | next u => exact ⟨u, rfl, h⟩
  | fault r => exact h.elim
  | refused r => exact h.elim

theorem Alike.of_refused {o : Result} {r : Refusal} (h : Alike (.refused r) o) :
    o = .refused r := by
  cases o with
  | next u => exact h.elim
  | fault r => exact h.elim
  | refused r' => exact congrArg _ (Eq.symm h)

theorem Alike.andThen {o o' : Result} {f f' : State → Result} (ho : Alike o o')
    (hf : ∀ t u, t.sameView u → Alike (f t) (f' u)) : Alike (andThen o f) (andThen o' f') := by
  cases o with
  | next t =>
    obtain ⟨u, rfl, htu⟩ := ho.of_next
    exact hf t u htu
  | fault r =>
    cases o' with
    | fault r' => exact ho
    | next u => exact ho.elim
    | refused r' => exact ho.elim
  | refused r =>
    rw [Alike.of_refused ho]
    exact Alike.refused r

/-- Two operations that take the same branch are alike if the branches are. -/
theorem Alike.ite {c : Prop} [Decidable c] {o₁ o₂ o₁' o₂' : Result} (h₁ : c → Alike o₁ o₁')
    (h₂ : ¬ c → Alike o₂ o₂') : Alike (if c then o₁ else o₂) (if c then o₁' else o₂') := by
  split
  · exact h₁ ‹_›
  · exact h₂ ‹_›

theorem State.sameView.ite {c : Prop} [Decidable c] {t₁ t₂ u₁ u₂ : State}
    (h₁ : c → t₁.sameView u₁) (h₂ : ¬ c → t₂.sameView u₂) :
    State.sameView (if c then t₁ else t₂) (if c then u₁ else u₂) := by
  split
  · exact h₁ ‹_›
  · exact h₂ ‹_›

/-! ### States that differ in queues and framer only -/

/-- The state with other queues and another framer. -/
def State.withHidden (s : State) (g : Ring GridEvent) (q : Ring ArcEvent) (f : Framer) : State :=
  { s with gq := g, aq := q, rx := f }

/-- The second of two states with the same view is the first with other queues and another framer. -/
theorem State.sameView.exists_hidden {a b : State} (h : a.sameView b) :
    ∃ g q f, Ring.sameView GridEvent.zero a.gq g ∧ Ring.sameView ArcEvent.zero a.aq q ∧
      Framer.sameView a.rx f ∧ b = a.withHidden g q f :=
  ⟨b.gq, b.aq, b.rx, h⟩

theorem Ring.sameView.refl {α : Type} (z : α) (q : Ring α) : Ring.sameView z q q :=
  ⟨rfl, rfl, rfl⟩

theorem State.sameView.refl (s : State) : s.sameView s :=
  ⟨.refl _ _, .refl _ _, ⟨rfl, fun _ => ⟨rfl, rfl, rfl, rfl⟩⟩, rfl⟩

section
variable {a b : State}

theorem State.sameView.respond (h : a.sameView b) (r : Response) :
    (respond a r).sameView (respond b r) := by
  obtain ⟨g, q, f, hg, hq, hf, rfl⟩ := h.exists_hidden
  exact ⟨hg, hq, hf, rfl⟩

theorem State.sameView.done (h : a.sameView b) (d2 d1 d0 : Byte) :
    (done a d2 d1 d0).sameView (done b d2 d1 d0) := h.respond _

theorem State.sameView.label (h : a.sameView b) (l : Label) :
    (label l a).sameView (label l b) := by
  obtain ⟨g, q, f, hg, hq, hf, rfl⟩ := h.exists_hidden
  exact ⟨hg, hq, hf, rfl⟩

theorem State.sameView.withJob (h : a.sameView b) (j : Job) :
    State.sameView { a with job := j } { b with job := j } := by
  obtain ⟨g, q, f, hg, hq, hf, rfl⟩ := h.exists_hidden
  exact ⟨hg, hq, hf, rfl⟩

theorem State.sameView.txEmit (h : a.sameView b) (bs : List Byte) :
    (txEmit bs a).sameView (txEmit bs b) := by
  obtain ⟨g, q, f, hg, hq, hf, rfl⟩ := h.exists_hidden
  exact ⟨hg, hq, hf, rfl⟩

/-- The framers' contents are unobservable once both are idle. -/
theorem State.sameView.framerIdle (h : a.sameView b) :
    (framerIdle a).sameView (framerIdle b) := by
  obtain ⟨g, q, f, hg, hq, -, rfl⟩ := h.exists_hidden
  exact ⟨hg, hq, ⟨rfl, nofun⟩, rfl⟩

theorem State.sameView.dropConnection (h : a.sameView b) :
    (dropConnection a).sameView (dropConnection b) := by
  obtain ⟨g, q, f, hg, hq, -, rfl⟩ := h.exists_hidden
  exact ⟨hg, hq, ⟨rfl, nofun⟩, rfl⟩

theorem State.sameView.raise (h : a.sameView b) (c : Condition) :
    (raise c a).sameView (raise c b) := by
  by_cases hc : c = .transportError
  · subst hc
    exact h.dropConnection.respond _
  · rw [raise_ne_transport hc, raise_ne_transport hc]
    exact h.respond _

theorem State.sameView.cfg_eq (h : a.sameView b) : b.cfg = a.cfg := by
  obtain ⟨g, q, f, -, -, -, rfl⟩ := h.exists_hidden
  rfl

theorem State.sameView.job_eq (h : a.sameView b) : b.job = a.job := by
  obtain ⟨g, q, f, -, -, -, rfl⟩ := h.exists_hidden
  rfl

/-- ENV's answer does not depend on the block. -/
theorem State.sameView.nextOutcome_eq (h : a.sameView b) : nextOutcome b = nextOutcome a := by
  obtain ⟨g, q, f, -, -, -, rfl⟩ := h.exists_hidden
  rfl

theorem State.sameView.emitThen (h : a.sameView b) {go : State → State} (sent : Bool)
    (bs : List Byte) (hgo : ∀ t u : State, t.sameView u → (go t).sameView (go u)) :
    (emitThen sent bs a go).sameView (emitThen sent bs b go) := by
  unfold Machine.emitThen
  rw [h.nextOutcome_eq]
  split
  · exact hgo _ _ (h.txEmit bs)
  · exact (((h.txEmit bs).withJob _).dropConnection).respond _

/-! ### The event queues (rules R100 to R109) -/

section
variable {α : Type} {z : α} {p q : Ring α}

theorem Ring.sameView.count_eq (h : Ring.sameView z p q) : q.count = p.count := h.2.1.symm

theorem Ring.sameView.empty_eq (h : Ring.sameView z p q) : q.empty = p.empty := by
  rw [Ring.empty, Ring.empty, h.count_eq]

theorem Ring.sameView.avail_eq (h : Ring.sameView z p q) : q.avail = p.avail := by
  rw [Ring.avail, Ring.avail, h.count_eq]

theorem Ring.sameView.push [DecidableEq α] (h : Ring.sameView z p q) (hp : p.Sound z)
    (hq : q.Sound z) (hc : p.count ≠ qcap) (e : α) :
    Ring.sameView z (p.push z e) (q.push z e) := by
  obtain ⟨hhead, hcount, hcont⟩ := h
  have hpc : p.count < qcap := Nat.lt_of_le_of_ne hp.bounded.2 hc
  refine ⟨hhead, congrArg (· + 1) hcount, ?_⟩
  rw [Ring.contents_push e hp.canonical hpc, Ring.contents_push e hq.canonical (hcount ▸ hpc),
    hcont]

theorem Ring.sameView.pop (h : Ring.sameView z p q) (hh : p.head < qcap)
    (hc : p.count ≠ 0) :
    p.front z = q.front z ∧ Ring.sameView z p.pop q.pop := by
  obtain ⟨hhead, hcount, hcont⟩ := h
  have hq : q.contents z = q.front z :: q.pop.contents z :=
    Ring.contents_pop (hhead ▸ hh) (hcount ▸ hc)
  rw [Ring.contents_pop hh hc, hq] at hcont
  obtain ⟨hfront, hpop⟩ := List.cons.inj hcont
  exact ⟨hfront, by simp only [Ring.pop_head, hhead], by simp only [Ring.pop_count, hcount], hpop⟩

end

/-- Both queues are in canonical form and within their bounds. -/
structure State.QueuesSound (s : State) : Prop where
  grid : s.gq.Sound GridEvent.zero
  arc : s.aq.Sound ArcEvent.zero

theorem State.Inv.queuesSound {s : State} (h : s.Inv) : s.QueuesSound := by
  obtain ⟨hgq, haq, -, -, -, -⟩ := h.memory
  exact ⟨⟨hgq, h.gridQueue⟩, ⟨haq, h.arcQueue⟩⟩

theorem State.sameView.qAddG (h : a.sameView b) (ha : a.QueuesSound) (hb : b.QueuesSound)
    (e : GridEvent) : (qAddG e a).sameView (qAddG e b) := by
  obtain ⟨g, q, f, hg, hq, hf, rfl⟩ := h.exists_hidden
  simp only [Machine.qAddG, State.withHidden, hg.count_eq]
  split
  · exact ⟨hg, hq, hf, rfl⟩
  · exact ⟨hg.push ha.grid hb.grid ‹_› e, hq, hf, rfl⟩

theorem State.sameView.qAddA (h : a.sameView b) (ha : a.QueuesSound) (hb : b.QueuesSound)
    (e : ArcEvent) : (qAddA e a).sameView (qAddA e b) := by
  obtain ⟨g, q, f, hg, hq, hf, rfl⟩ := h.exists_hidden
  simp only [Machine.qAddA, State.withHidden, hq.count_eq]
  split
  · exact ⟨hg, hq, hf, rfl⟩
  · exact ⟨hg, hq.push ha.arc hb.arc ‹_› e, hf, rfl⟩

theorem execRdg_alike (h : a.sameView b) : Alike (execRdg a) (execRdg b) := by
  obtain ⟨g, q, f, hg, hq, hf, rfl⟩ := h.exists_hidden
  simp only [execRdg, State.withHidden, hg.empty_eq, ← hg.1]
  refine .ite (fun _ => h.raise _) fun hne => .ite (fun hh => ?_) fun _ => .fault _
  obtain ⟨hfront, hpop⟩ := hg.pop hh (by simpa [Ring.empty] using hne)
  rw [← hfront]
  exact ⟨hpop, hq, hf, rfl⟩

theorem execRda_alike (h : a.sameView b) : Alike (execRda a) (execRda b) := by
  obtain ⟨g, q, f, hg, hq, hf, rfl⟩ := h.exists_hidden
  simp only [execRda, State.withHidden, hq.empty_eq, ← hq.1]
  refine .ite (fun _ => h.raise _) fun hne => .ite (fun hh => ?_) fun _ => .fault _
  obtain ⟨hfront, hpop⟩ := hq.pop hh (by simpa [Ring.empty] using hne)
  rw [← hfront]
  exact ⟨hg, hpop, hf, rfl⟩

/-! ### The received frames (rules R123 to R130) -/

theorem State.sameView.malformed (h : a.sameView b) (hcmd : a.rx.cmd = b.rx.cmd) :
    (malformed a).sameView (malformed b) := by
  unfold Machine.malformed
  rw [hcmd]
  exact h.label _

theorem State.sameView.keyFrame (h : a.sameView b) (hcmd : a.rx.cmd = b.rx.cmd)
    (ha : a.QueuesSound) (hb : b.QueuesSound) (v : Bool) (xp yp : Byte) :
    (keyFrame v xp yp a).sameView (keyFrame v xp yp b) := by
  obtain ⟨g, q, f, -, -, -, rfl⟩ := h.exists_hidden
  unfold Machine.keyFrame
  exact .ite (fun _ => h.qAddG ha hb _) fun _ => h.malformed hcmd

theorem State.sameView.encFrame (h : a.sameView b) (hcmd : a.rx.cmd = b.rx.cmd)
    (ha : a.QueuesSound) (hb : b.QueuesSound) (n d : Byte) :
    (encFrame n d a).sameView (encFrame n d b) := by
  obtain ⟨g, q, f, -, -, -, rfl⟩ := h.exists_hidden
  unfold Machine.encFrame
  exact .ite (fun _ => h.qAddA ha hb _) fun _ => h.malformed hcmd

theorem State.sameView.infoCapsFrame (h : a.sameView b) (hcmd : a.rx.cmd = b.rx.cmd)
    (c0 c1 : Byte) : (infoCapsFrame c0 c1 a).sameView (infoCapsFrame c0 c1 b) := by
  obtain ⟨g, q, f, hg, hq, hf, rfl⟩ := h.exists_hidden
  unfold Machine.infoCapsFrame
  exact .ite (fun _ => ⟨hg, hq, hf, rfl⟩) fun _ => h.malformed hcmd

theorem infoIdFrame_alike (h : a.sameView b) (id : List Byte) :
    Alike (infoIdFrame id a) (infoIdFrame id b) := by
  obtain ⟨g, q, f, hg, hq, hf, rfl⟩ := h.exists_hidden
  unfold Machine.infoIdFrame
  exact .ite (fun _ => ⟨hg, hq, hf, rfl⟩) fun _ => .fault _

theorem State.sameView.sizeFrame (h : a.sameView b) (hcmd : a.rx.cmd = b.rx.cmd)
    (s0 s1 : Byte) : (sizeFrame s0 s1 a).sameView (sizeFrame s0 s1 b) := by
  obtain ⟨g, q, f, hg, hq, hf, rfl⟩ := h.exists_hidden
  unfold Machine.sizeFrame
  exact .ite
    (fun _ => .ite (fun _ => ⟨hg, hq, hf, rfl⟩) fun _ => h.malformed hcmd)
    fun _ => .ite (fun _ => ⟨hg, hq, hf, rfl⟩) fun _ => h.malformed hcmd

theorem State.sameView.rotFrame (h : a.sameView b) (hcmd : a.rx.cmd = b.rx.cmd) (r : Byte) :
    (rotFrame r a).sameView (rotFrame r b) := by
  obtain ⟨g, q, f, hg, hq, hf, rfl⟩ := h.exists_hidden
  unfold Machine.rotFrame
  exact .ite (fun _ => ⟨hg, hq, hf, rfl⟩) fun _ => h.malformed hcmd

/-- A frame's effect is the same on both, once the framers agree on its command byte, which a
malformed frame's label shows. -/
theorem dispatchFrame_alike (h : a.sameView b) (hcmd : a.rx.cmd = b.rx.cmd) (ha : a.QueuesSound)
    (hb : b.QueuesSound) (k : RxKind) (pl : List Byte) :
    Alike (dispatchFrame k pl a) (dispatchFrame k pl b) := by
  unfold dispatchFrame
  split
  · exact h.keyFrame hcmd ha hb _ _ _
  · exact h.encFrame hcmd ha hb _ _
  · exact h.infoCapsFrame hcmd _ _
  · exact infoIdFrame_alike h _
  · exact h.sizeFrame hcmd _ _
  · exact h.rotFrame hcmd _
  · exact h
  · exact .fault _

/-- A frame without payload shows no command byte: only identifiers and skipped frames may have
none. -/
theorem dispatchFrame_nil_alike (h : a.sameView b) (k : RxKind) :
    Alike (dispatchFrame k [] a) (dispatchFrame k [] b) := by
  cases k with
  | infoId => exact infoIdFrame_alike h []
  | skip n => exact h
  | _ => exact .fault _

/-! ### The framer (rules R13, R17, R122) -/

theorem Memory.readList_write_succ {α : Type} [DecidableEq α] {z : α} {n : Nat} {m : Memory α}
    (hm : Memory.wf z n m = true) (k : Nat) (v : α) :
    Memory.readList z (Memory.write z m k v) 0 (k + 1) = Memory.readList z m 0 k ++ [v] := by
  simp only [Memory.readList, List.range_succ, List.map_append, List.map_cons, List.map_nil,
    Memory.read_write hm, Nat.zero_add]
  congr 1
  exact List.map_congr_left fun i hi => if_neg (Nat.ne_of_gt (List.mem_range.mp hi))

/-- The bytes collected so far are the same after one more of them. -/
theorem State.sameView.storePayload (h : a.sameView b) (hc : a.rx.state = .collect)
    (ha : a.Inv) (hb : b.Inv) (v : Byte) : (storePayload v a).sameView (storePayload v b) := by
  obtain ⟨-, -, -, hma, -, -⟩ := ha.memory
  obtain ⟨-, -, -, hmb, -, -⟩ := hb.memory
  obtain ⟨g, q, f, hg, hq, ⟨hstate, hsame⟩, rfl⟩ := h.exists_hidden
  obtain ⟨hcmd, hneed, hcnt, hbytes⟩ := hsame hc
  have hmore :=
    calc Memory.readList 0 (Memory.write 0 a.rx.buf a.rx.cnt v) 0 (a.rx.cnt + 1)
      _ = Memory.readList 0 a.rx.buf 0 a.rx.cnt ++ [v] := Memory.readList_write_succ hma _ _
      _ = Memory.readList 0 f.buf 0 f.cnt ++ [v] := by rw [hbytes]
      _ = Memory.readList 0 (Memory.write 0 f.buf f.cnt v) 0 (f.cnt + 1) :=
        (Memory.readList_write_succ hmb _ _).symm
  exact ⟨hg, hq, ⟨hstate, fun _ => ⟨hcmd, hneed, congrArg (· + 1) hcnt, hmore⟩⟩, rfl⟩

theorem rxStart_alike (h : a.sameView b) (v : Byte) : Alike (rxStart v a) (rxStart v b) := by
  obtain ⟨g, q, f, hg, hq, -, rfl⟩ := h.exists_hidden
  have hentry : (a.withHidden g q f).cfg.profile.rxEntry v = a.cfg.profile.rxEntry v := rfl
  unfold rxStart
  rw [hentry]
  cases a.cfg.profile.rxEntry v with
  | none => exact h.label _
  | some e =>
    exact .ite (fun _ => dispatchFrame_nil_alike h _) fun _ =>
      ⟨hg, hq, ⟨rfl, fun _ => ⟨rfl, rfl, rfl, rfl⟩⟩, rfl⟩

/-- A completed frame is the same in both framers. -/
theorem rxComplete_alike (h : a.sameView b) (hc : a.rx.state = .collect)
    (hfull : a.rx.cnt = a.rx.need) (ha : a.QueuesSound) (hb : b.QueuesSound) :
    Alike (rxComplete a) (rxComplete b) := by
  obtain ⟨-, -, ⟨-, hsame⟩, -⟩ := id h
  obtain ⟨hcmd, hneed, hcnt, hbytes⟩ := hsame hc
  rw [← hcnt, hfull] at hbytes
  unfold rxComplete
  rw [h.cfg_eq, ← hcmd, ← hneed, ← hbytes]
  cases a.cfg.profile.rxEntry a.rx.cmd with
  | none => exact .fault _
  | some e =>
    exact (dispatchFrame_alike h hcmd ha hb _ _).andThen fun t u htu => htu.framerIdle

theorem rxCollect_alike (h : a.sameView b) (hc : a.rx.state = .collect) (ha : a.Inv) (hb : b.Inv)
    (v : Byte) : Alike (rxCollect v a) (rxCollect v b) := by
  have hstored := h.storePayload hc ha hb v
  obtain ⟨-, -, ⟨-, hsame⟩, -⟩ := id h
  obtain ⟨-, hneed, hcnt, -⟩ := hsame hc
  simp only [rxCollect, storePayload_rx, h.cfg_eq, ← hcnt, ← hneed]
  refine .ite (fun _ => .ite (fun hfull => ?_) fun _ => hstored) fun _ => .fault _
  exact rxComplete_alike hstored hc hfull { ha.queuesSound with } { hb.queuesSound with }

theorem rxStep_alike (h : a.sameView b) (ha : a.Inv) (hb : b.Inv) (v : Byte) :
    Alike (rxStep v a) (rxStep v b) := by
  obtain ⟨-, -, ⟨hstate, -⟩, -⟩ := id h
  unfold rxStep
  rw [← hstate]
  split
  · exact rxStart_alike h v
  · exact rxCollect_alike h ‹_› ha hb v

/-! ### POLL and RXBYTE (rules R120, R121) -/

theorem execRxbyte_alike (h : a.sameView b) (ha : a.Inv) (hb : b.Inv) :
    Alike (execRxbyte a) (execRxbyte b) := by
  obtain ⟨g, q, f, hg, hq, hf, rfl⟩ := h.exists_hidden
  have hrxs : (a.withHidden g q f).rxs = a.rxs := rfl
  unfold execRxbyte
  refine .ite (fun _ => h.raise _) fun _ => ?_
  rw [hrxs]
  cases a.rxs with
  | nil => exact h.done _ _ _
  | cons v rest =>
    have htaken : State.sameView { a with rxs := rest } { a.withHidden g q f with rxs := rest } :=
      ⟨hg, hq, hf, rfl⟩
    exact (rxStep_alike htaken ha.withAgents hb.withAgents v).andThen
      fun t u htu => htu.done _ _ _

theorem execPoll_alike (h : a.sameView b) : Alike (execPoll a) (execPoll b) := by
  obtain ⟨g, q, f, -, -, -, rfl⟩ := h.exists_hidden
  unfold execPoll
  exact .ite (fun _ => h.raise _) fun _ => h.withJob _

theorem pollTurn_alike (h : a.sameView b) (ha : a.Inv) (hb : b.Inv) (k n : Nat) :
    Alike (pollTurn k n a) (pollTurn k n b) := by
  obtain ⟨g, q, f, hg, hq, hf, rfl⟩ := h.exists_hidden
  have hrxs : (a.withHidden g q f).rxs = a.rxs := rfl
  unfold pollTurn
  rw [hrxs]
  cases a.rxs with
  | nil => exact ⟨hg, hq, hf, rfl⟩
  | cons v rest =>
    have htaken : State.sameView { a with rxs := rest } { a.withHidden g q f with rxs := rest } :=
      ⟨hg, hq, hf, rfl⟩
    refine .ite (fun _ => ?_) fun _ => ⟨hg, hq, hf, rfl⟩
    exact (rxStep_alike htaken ha.withAgents hb.withAgents v).andThen
      fun t u htu => htu.withJob _

/-! ### The LedFrame mutators (rules R151 to R158) -/

theorem State.sameView.withLed (h : a.sameView b) (m : Memory Byte) (g₁ a₁ : Bool) :
    State.sameView { a with led := m, gridDirty := g₁, arcDirty := a₁ }
      { b with led := m, gridDirty := g₁, arcDirty := a₁ } := by
  obtain ⟨g, q, f, hg, hq, hf, rfl⟩ := h.exists_hidden
  exact ⟨hg, hq, hf, rfl⟩

theorem setGridLed_alike (h : a.sameView b) (x y level : Byte) :
    Alike (setGridLed x y level a) (setGridLed x y level b) := by
  obtain ⟨g, q, f, -, -, -, rfl⟩ := h.exists_hidden
  unfold setGridLed
  exact .ite (fun _ => h.raise _) fun _ => .ite (fun _ => h.raise _) fun _ =>
    .ite (fun _ => (h.withLed _ _ _).done _ _ _) fun _ => .fault _

theorem setArcLed_alike (h : a.sameView b) (ring led level : Byte) :
    Alike (setArcLed ring led level a) (setArcLed ring led level b) := by
  obtain ⟨g, q, f, -, -, -, rfl⟩ := h.exists_hidden
  unfold setArcLed
  exact .ite (fun _ => h.raise _) fun _ => .ite (fun _ => h.raise _) fun _ =>
    .ite (fun _ => (h.withLed _ _ _).done _ _ _) fun _ => .fault _

theorem setAllLeds_alike (h : a.sameView b) (level : Byte) :
    Alike (setAllLeds level a) (setAllLeds level b) := by
  obtain ⟨g, q, f, -, -, -, rfl⟩ := h.exists_hidden
  unfold setAllLeds
  exact .ite (fun _ => h.raise _) fun _ => (h.withLed _ _ _).done _ _ _

theorem execClrring_alike (h : a.sameView b) (ring : Byte) :
    Alike (execClrring ring a) (execClrring ring b) := by
  obtain ⟨g, q, f, -, -, -, rfl⟩ := h.exists_hidden
  unfold execClrring
  exact .ite (fun _ => h.raise _) fun _ => .ite (fun _ => h.raise _) fun _ =>
    .ite (fun _ => (h.withLed _ _ _).done _ _ _) fun _ => .fault _

/-! ### The refresh loops (rules R159 to R161) -/

theorem State.sameView.arcDone (h : a.sameView b) : (arcDone a).sameView (arcDone b) := by
  obtain ⟨g, q, f, hg, hq, hf, rfl⟩ := h.exists_hidden
  exact ⟨hg, hq, hf, rfl⟩

theorem State.sameView.gridDone (h : a.sameView b) (thenArc : Bool) :
    (gridDone thenArc a).sameView (gridDone thenArc b) := by
  obtain ⟨g, q, f, hg, hq, hf, rfl⟩ := h.exists_hidden
  unfold Machine.gridDone
  exact .ite (fun _ => ⟨hg, hq, hf, rfl⟩) fun _ => ⟨hg, hq, hf, rfl⟩

theorem gridTurn_alike (h : a.sameView b) (sent : Bool) (w h' quad : Nat) (thenArc : Bool) :
    Alike (gridTurn sent w h' quad thenArc a) (gridTurn sent w h' quad thenArc b) := by
  obtain ⟨g, q, f, -, -, -, rfl⟩ := h.exists_hidden
  have hframe : frameBytes (a.withHidden g q f) .gmap (gmapPayload (a.withHidden g q f) w h' quad)
      = frameBytes a .gmap (gmapPayload a w h' quad) := rfl
  unfold gridTurn
  rw [hframe]
  refine .ite (fun _ => .ite (fun _ => ?_) fun _ => h.gridDone _) fun _ => .fault _
  exact h.emitThen _ _ fun t u htu =>
    .ite (fun _ => htu.withJob _) fun _ => htu.gridDone _

theorem arcTurn_alike (h : a.sameView b) (sent : Bool) (rings ring : Nat) :
    Alike (arcTurn sent rings ring a) (arcTurn sent rings ring b) := by
  obtain ⟨g, q, f, -, -, -, rfl⟩ := h.exists_hidden
  have hframe : frameBytes (a.withHidden g q f) .amap (amapPayload (a.withHidden g q f) ring)
      = frameBytes a .amap (amapPayload a ring) := rfl
  unfold arcTurn
  rw [hframe]
  refine .ite (fun _ => .ite (fun _ => ?_) fun _ => .fault _) fun _ => h.arcDone
  exact h.emitThen _ _ fun t u htu => .ite (fun _ => htu.withJob _) fun _ => htu.arcDone

theorem execRefreshg_alike (h : a.sameView b) : Alike (execRefreshg a) (execRefreshg b) := by
  obtain ⟨g, q, f, -, -, -, rfl⟩ := h.exists_hidden
  unfold execRefreshg
  exact .ite (fun _ => h.raise _) fun _ => .ite (fun _ => h.done _ _ _) fun _ =>
    gridTurn_alike h _ _ _ _ _

theorem execRefresha_alike (h : a.sameView b) : Alike (execRefresha a) (execRefresha b) := by
  obtain ⟨g, q, f, -, -, -, rfl⟩ := h.exists_hidden
  unfold execRefresha
  exact .ite (fun _ => h.raise _) fun _ => .ite (fun _ => h.done _ _ _) fun _ =>
    arcTurn_alike h _ _ _

theorem execRefresh_alike (h : a.sameView b) : Alike (execRefresh a) (execRefresh b) := by
  obtain ⟨g, q, f, -, -, -, rfl⟩ := h.exists_hidden
  unfold execRefresh
  exact .ite (fun _ => h.raise _) fun _ => .ite (fun _ => h.done _ _ _) fun _ =>
    .ite (fun _ => gridTurn_alike h _ _ _ _ _) fun _ => arcTurn_alike h _ _ _

/-! ### The explicit senders and the controller (rules R162, R163, R191 to R196) -/

theorem execSendsize_alike (h : a.sameView b) : Alike (execSendsize a) (execSendsize b) := by
  obtain ⟨g, q, f, -, -, -, rfl⟩ := h.exists_hidden
  unfold execSendsize
  exact .ite (fun _ => h.raise _) fun _ => .ite (fun _ => h.raise _) fun _ =>
    h.emitThen _ _ fun t u htu => htu.done _ _ _

theorem execSendrot_alike (h : a.sameView b) : Alike (execSendrot a) (execSendrot b) := by
  obtain ⟨g, q, f, -, -, -, rfl⟩ := h.exists_hidden
  unfold execSendrot
  exact .ite (fun _ => h.raise _) fun _ => h.emitThen _ _ fun t u htu => htu.done _ _ _

theorem State.sameView.startProbe (h : a.sameView b) :
    State.sameView { a with probing := true } { b with probing := true } := by
  obtain ⟨g, q, f, hg, hq, hf, rfl⟩ := h.exists_hidden
  exact ⟨hg, hq, hf, rfl⟩

theorem execGetinfo_alike (h : a.sameView b) : Alike (execGetinfo a) (execGetinfo b) := by
  obtain ⟨g, q, f, -, -, -, rfl⟩ := h.exists_hidden
  exact h.emitThen _ _ fun t u htu => htu.startProbe.done _ _ _

/-- INIT leaves nothing of the unspecified cells. -/
theorem execInit_alike (h : a.sameView b) : Alike (execInit a) (execInit b) := by
  obtain ⟨g, q, f, -, -, -, rfl⟩ := h.exists_hidden
  exact State.sameView.refl _

theorem execSetupg_alike (h : a.sameView b) (rows columns : Byte) :
    Alike (execSetupg rows columns a) (execSetupg rows columns b) := by
  obtain ⟨g, q, f, hg, hq, hf, rfl⟩ := h.exists_hidden
  unfold execSetupg
  exact .ite (fun _ => h.raise _) fun _ => .ite (fun _ => ⟨hg, hq, hf, rfl⟩) fun _ => h.raise _

theorem execSetupa_alike (h : a.sameView b) (encoders : Byte) :
    Alike (execSetupa encoders a) (execSetupa encoders b) := by
  obtain ⟨g, q, f, hg, hq, hf, rfl⟩ := h.exists_hidden
  unfold execSetupa
  exact .ite (fun _ => h.raise _) fun _ => .ite (fun _ => ⟨hg, hq, hf, rfl⟩) fun _ => h.raise _

theorem execSetrot_alike (h : a.sameView b) (r : Byte) :
    Alike (execSetrot r a) (execSetrot r b) := by
  obtain ⟨g, q, f, hg, hq, hf, rfl⟩ := h.exists_hidden
  unfold execSetrot
  exact .ite (fun _ => h.raise _) fun _ => ⟨hg, hq, hf, rfl⟩

/-- The registers show of the queues and the framer their counts and the sequencer's state only. -/
theorem State.sameView.readReg_eq (h : a.sameView b) (n : Byte) : readReg b n = readReg a n := by
  obtain ⟨g, q, f, ⟨-, hgc, -⟩, ⟨-, hqc, -⟩, ⟨hstate, -⟩, rfl⟩ := h.exists_hidden
  have hstatus : statusView (a.withHidden g q f) = statusView a := by
    simp only [statusView, rxBusy, State.withHidden, hstate]
  have hqstat : qstatView (a.withHidden g q f) = qstatView a := by
    simp only [qstatView, Ring.full, Ring.avail, State.withHidden, hgc, hqc]
  unfold readReg
  rw [hstatus, hqstat]
  rfl

theorem execRdreg_alike (h : a.sameView b) (n : Byte) :
    Alike (execRdreg n a) (execRdreg n b) := by
  unfold execRdreg
  rw [h.readReg_eq]
  cases readReg a n with
  | some v => exact h.done _ _ _
  | none => exact h.raise _

/-! ### The tilt tracker (rules R210, R211) -/

theorem State.sameView.setTiltRec (h : a.sameView b) (n : Nat) (r : TiltRec) :
    (setTiltRec a n r).sameView (setTiltRec b n r) := by
  obtain ⟨g, q, f, hg, hq, hf, rfl⟩ := h.exists_hidden
  exact ⟨hg, hq, hf, rfl⟩

theorem execSettilt_alike (h : a.sameView b) (sensor : Byte) (active : Bool) :
    Alike (execSettilt sensor active a) (execSettilt sensor active b) := by
  obtain ⟨g, q, f, -, -, -, rfl⟩ := h.exists_hidden
  unfold execSettilt
  exact .ite (fun _ => h.raise _) fun _ => (h.setTiltRec _ _).done _ _ _

theorem execSendtilt_alike (h : a.sameView b) (sensor : Byte) (x y z : Half) :
    Alike (execSendtilt sensor x y z a) (execSendtilt sensor x y z b) := by
  obtain ⟨g, q, f, -, -, -, rfl⟩ := h.exists_hidden
  unfold execSendtilt
  exact .ite (fun _ => h.raise _) fun _ => .ite (fun _ => h.raise _) fun _ =>
    .ite (fun _ => h.done _ _ _) fun _ => .ite (fun _ => h.done _ _ _) fun _ =>
      (h.setTiltRec _ _).emitThen _ _ fun t u htu => htu.done _ _ _

/-! ### The port operations together -/

/-- The instruction is an operation an agent issues, and no frame (rule R72). -/
def isPortOperation : Instr → Bool
  | .rxInfoCaps _ _ | .rxInfoId _ | .rxSize _ _ | .rxRot _ | .rxKeyup _ _ | .rxKeydn _ _
  | .rxEnc _ _ => false
  | .txSize _ _ | .txRot _ | .txGmap _ _ _ | .txAmap _ _ | .txTilt _ _ _ _ | .txQuery => false
  | _ => true

theorem decodeCommand_isPortOperation {cw : Command} {i : Instr}
    (h : decodeCommand cw = .ok i) : isPortOperation i = true := by
  unfold decodeCommand at h
  split at h <;> cases h <;> rfl

/-- Every port operation runs alike on states with the same view. (A received frame alone would not:
its label may show the command byte of an idle framer.) -/
theorem exec_alike (h : a.sameView b) (ha : a.Inv) (hb : b.Inv) {i : Instr}
    (hi : isPortOperation i = true) : Alike (exec i a) (exec i b) := by
  cases i with
  | addg x y pressed => exact (h.qAddG ha.queuesSound hb.queuesSound _).done _ _ _
  | adda index delta => exact (h.qAddA ha.queuesSound hb.queuesSound _).done _ _ _
  | gavail =>
    obtain ⟨hg, -, -, -⟩ := id h
    rw [exec, exec, execGavail, execGavail, hg.avail_eq]
    exact h.done _ _ _
  | aavail =>
    obtain ⟨-, hq, -, -⟩ := id h
    rw [exec, exec, execAavail, execAavail, hq.avail_eq]
    exact h.done _ _ _
  | rdg => exact execRdg_alike h
  | rda => exact execRda_alike h
  | poll => exact execPoll_alike h
  | rxbyte => exact execRxbyte_alike h ha hb
  | setgled x y level => exact setGridLed_alike h x y level
  | clrgled x y => exact setGridLed_alike h x y 0
  | setaled ring led level => exact setArcLed_alike h ring led level
  | clraled ring led => exact setArcLed_alike h ring led 0
  | setall level => exact setAllLeds_alike h level
  | clrall => exact setAllLeds_alike h 0
  | clrring ring => exact execClrring_alike h ring
  | refreshg => exact execRefreshg_alike h
  | refresha => exact execRefresha_alike h
  | refresh => exact execRefresh_alike h
  | sendsize => exact execSendsize_alike h
  | sendrot => exact execSendrot_alike h
  | init => exact execInit_alike h
  | getinfo => exact execGetinfo_alike h
  | setupg rows columns => exact execSetupg_alike h rows columns
  | setupa encoders => exact execSetupa_alike h encoders
  | setrot r => exact execSetrot_alike h r
  | rdreg n => exact execRdreg_alike h n
  | settilt sensor active => exact execSettilt_alike h sensor active
  | sendtilt sensor x y z => exact execSendtilt_alike h sensor x y z
  | _ => cases hi

/-! ### The agents' turns and the step (rules R51, R52, R63) -/

theorem issue_alike (h : a.sameView b) (ha : a.Inv) (hb : b.Inv) (p : Agent) (cw : Command) :
    Alike (issue p cw a) (issue p cw b) := by
  cases hd : decodeCommand cw with
  | error e =>
    rw [issue_illegal hd, issue_illegal hd]
    exact h.raise _
  | ok i =>
    cases hp : portAllows a.cfg p i with
    | false =>
      rw [issue_refused hd hp, issue_refused hd (h.cfg_eq ▸ hp)]
      exact .refused _
    | true =>
      rw [issue_ok hd hp, issue_ok hd (h.cfg_eq ▸ hp)]
      exact exec_alike h ha hb (decodeCommand_isPortOperation hd)

/-- The same fields for the agents leave the same view. -/
theorem State.sameView.withAgents (h : a.sameView b) (port : Agent) (rxs : List Byte)
    (schedule : List Turn) (hostProg prodProg : List Command) :
    State.sameView
      { a with
        port := port, rxs := rxs, schedule := schedule, hostProg := hostProg
        prodProg := prodProg }
      { b with
        port := port, rxs := rxs, schedule := schedule, hostProg := hostProg
        prodProg := prodProg } := by
  obtain ⟨g, q, f, hg, hq, hf, rfl⟩ := h.exists_hidden
  exact ⟨hg, hq, hf, rfl⟩

theorem jobTurn_alike (h : a.sameView b) (ha : a.Inv) (hb : b.Inv) :
    Alike (jobTurn a) (jobTurn b) := by
  unfold jobTurn
  rw [h.job_eq]
  cases a.job with
  | idle => exact h
  | poll k n => exact pollTurn_alike h ha hb k n
  | gridFrames w h' quad thenArc => exact gridTurn_alike h true w h' quad thenArc
  | arcFrames rings ring => exact arcTurn_alike h true rings ring

theorem hostServed_alike (h : a.sameView b) (ha : a.Inv) (hb : b.Inv) :
    Alike (hostServed a) (hostServed b) := by
  obtain ⟨g, q, f, -, -, -, rfl⟩ := h.exists_hidden
  have hjob : (a.withHidden g q f).job = a.job := rfl
  have hprog : (a.withHidden g q f).hostProg = a.hostProg := rfl
  unfold hostServed
  rw [hjob, hprog]
  split
  · split
    · exact h
    · exact issue_alike (h.withAgents _ _ _ _ _) ha.withAgents hb.withAgents _ _
  · exact jobTurn_alike h ha hb

theorem prodServed_alike (h : a.sameView b) (ha : a.Inv) (hb : b.Inv) :
    Alike (prodServed a) (prodServed b) := by
  obtain ⟨g, q, f, -, -, -, rfl⟩ := h.exists_hidden
  have hprog : (a.withHidden g q f).prodProg = a.prodProg := rfl
  unfold prodServed
  rw [hprog]
  split
  · exact h
  · exact issue_alike (h.withAgents _ _ _ _ _) ha.withAgents hb.withAgents _ _

theorem step_alike (h : a.sameView b) (ha : a.Inv) (hb : b.Inv) : Alike (step a) (step b) := by
  obtain ⟨g, q, f, hg, hq, hf, rfl⟩ := h.exists_hidden
  have hsched : (a.withHidden g q f).schedule = a.schedule := rfl
  rw [step_eq_takeTurn ha.profile, step_eq_takeTurn hb.profile]
  unfold takeTurn
  rw [hsched]
  split
  · exact hostServed_alike (h.withAgents _ _ _ _ _) ha.withAgents hb.withAgents
  · exact hostServed_alike (h.withAgents _ _ _ _ _) ha.withAgents hb.withAgents
  · exact prodServed_alike (h.withAgents _ _ _ _ _) ha.withAgents hb.withAgents
  · exact ⟨hg, hq, hf, rfl⟩
  · exact (h.withAgents _ _ _ _ _).dropConnection

end

/-- Settles O25: what a step reads is the same in both states, and what it writes leaves them with
the same view. -/
theorem unspecifiedCellsAreUnobservable : Obligations.UnspecifiedCellsAreUnobservable := by
  intro a b ha hb h
  have hstep := step_alike h ha hb
  refine ⟨fun t ht => ?_, fun r hr => ?_⟩
  · rw [ht] at hstep
    exact hstep.of_next
  · rw [hr] at hstep
    exact hstep.of_refused

end Sys2Proof.Machine
end

section
/-! SUPPORT. Which agent's turn a step is, by the head of the schedule (rules R43, R45, R51, R52,
R63), and that a turn of PROD or ENV takes nothing from the event queues (rule R66). -/

namespace Sys2Proof.Machine

/-! ### The turn at the head of the schedule -/

section
variable {s : State} {turns : List Turn}

theorem step_schedule_nil (hp : s.cfg.profile.wf = true) (hs : s.schedule = []) :
    step s = hostTurn s := by
  rw [step_eq_takeTurn hp, takeTurn, hs]

theorem step_host (hp : s.cfg.profile.wf = true) (hs : s.schedule = .host :: turns) :
    step s = hostTurn { s with schedule := turns } := by
  rw [step_eq_takeTurn hp, takeTurn, hs]

theorem step_prod (hp : s.cfg.profile.wf = true) (hs : s.schedule = .prod :: turns) :
    step s = prodTurn { s with schedule := turns } := by
  rw [step_eq_takeTurn hp, takeTurn, hs]

theorem step_byteArrive {b : Byte} (hp : s.cfg.profile.wf = true)
    (hs : s.schedule = .byteArrive b :: turns) :
    step s = .next (byteArrive b { s with schedule := turns }) := by
  rw [step_eq_takeTurn hp, takeTurn, hs]

theorem step_transportDown (hp : s.cfg.profile.wf = true)
    (hs : s.schedule = .transportDown :: turns) :
    step s = .next (dropConnection { s with schedule := turns }) := by
  rw [step_eq_takeTurn hp, takeTurn, hs]

/-! ### What the agent served does -/

theorem hostTurn_wait (hj : s.job = .idle) (hc : s.hostProg = []) :
    hostTurn s = .next { s with port := .host } := by
  simp only [hostTurn, hostServed, hj, hc]

theorem hostTurn_job (hj : s.job ≠ .idle) : hostTurn s = jobTurn { s with port := .host } := by
  cases h : s.job with
  | idle => exact absurd h hj
  | _ => simp only [hostTurn, hostServed, h]

/-- HOST, with no operation in progress, runs the operation of its next command word. -/
theorem hostTurn_exec {cw : Command} {rest : List Command} {i : Instr} (hj : s.job = .idle)
    (hc : s.hostProg = cw :: rest) (hd : decodeCommand cw = .ok i)
    (ha : portAllows s.cfg .host i = true) :
    hostTurn s = exec i { s with port := .host, hostProg := rest } := by
  simp only [hostTurn, hostServed, hj, hc]
  exact issue_ok hd ha

theorem prodTurn_exec {cw : Command} {rest : List Command} {i : Instr}
    (hc : s.prodProg = cw :: rest) (hd : decodeCommand cw = .ok i)
    (ha : portAllows s.cfg .prod i = true) :
    prodTurn s = exec i { s with port := .prod, prodProg := rest } := by
  simp only [prodTurn, prodServed, hc]
  exact issue_ok hd ha

end

/-- Settles O6: the head of the schedule says whose turn it is, and the agent issues its word. -/
theorem stepRunsDecodedInstruction : Obligations.StepRunsDecodedInstruction := by
  intro s cw rest i hp hd
  refine ⟨fun hj hc ha => ⟨fun hs => ?_, fun turns hs => ?_⟩, fun hc ha turns hs => ?_⟩
  · rw [step_schedule_nil hp hs]
    exact hostTurn_exec hj hc hd ha
  · rw [step_host hp hs]
    exact hostTurn_exec (s := { s with schedule := turns }) hj hc hd ha
  · rw [step_prod hp hs]
    exact prodTurn_exec (s := { s with schedule := turns }) hc hd ha

/-- Settles O10: the turn is the state effect of TransportError. -/
theorem transportDownDropsConnection : Obligations.TransportDownDropsConnection :=
  fun _ _ => step_transportDown

/-- Settles O11: an arrival is the whole turn, and HOST with nothing pending waits. -/
theorem bytesArriveInOrder : Obligations.BytesArriveInOrder := by
  intro s hp
  refine ⟨fun b turns => step_byteArrive hp, fun hs hj hc => ?_⟩
  rw [step_schedule_nil hp hs]
  exact hostTurn_wait hj hc

/-! ### Turns that only add to the event queues -/

/-- From `s` to `t` no event was read: the heads stand and no count fell. -/
structure QueuesGrow (s t : State) : Prop where
  gridHead : t.gq.head = s.gq.head
  gridCount : s.gq.count ≤ t.gq.count
  arcHead : t.aq.head = s.aq.head
  arcCount : s.aq.count ≤ t.aq.count

theorem QueuesGrow.of_eq {s t : State} (hg : t.gq = s.gq) (ha : t.aq = s.aq) : QueuesGrow s t := by
  constructor <;> simp [hg, ha]

theorem QueuesGrow.trans {s t u : State} (h : QueuesGrow s t) (h' : QueuesGrow t u) :
    QueuesGrow s u :=
  ⟨h'.gridHead.trans h.gridHead, h.gridCount.trans h'.gridCount, h'.arcHead.trans h.arcHead,
    h.arcCount.trans h'.arcCount⟩

theorem qAddG_grows (e : GridEvent) (s : State) : QueuesGrow s (qAddG e s) := by
  unfold qAddG
  split
  · exact .of_eq rfl rfl
  · exact ⟨rfl, Nat.le_succ _, rfl, le_refl _⟩

theorem qAddA_grows (e : ArcEvent) (s : State) : QueuesGrow s (qAddA e s) := by
  unfold qAddA
  split
  · exact .of_eq rfl rfl
  · exact ⟨rfl, le_refl _, rfl, Nat.le_succ _⟩

theorem keyFrame_grows (v : Bool) (xp yp : Byte) (s : State) :
    QueuesGrow s (keyFrame v xp yp s) := by
  unfold keyFrame
  split
  · exact qAddG_grows _ s
  · exact .of_eq rfl rfl

theorem encFrame_grows (n d : Byte) (s : State) : QueuesGrow s (encFrame n d s) := by
  unfold encFrame
  split
  · exact qAddA_grows _ s
  · exact .of_eq rfl rfl

theorem infoCapsFrame_grows (c0 c1 : Byte) (s : State) :
    QueuesGrow s (infoCapsFrame c0 c1 s) := by
  dsimp only [infoCapsFrame]
  split <;> exact .of_eq rfl rfl

theorem sizeFrame_grows (s0 s1 : Byte) (s : State) : QueuesGrow s (sizeFrame s0 s1 s) := by
  unfold sizeFrame
  split_ifs <;> exact .of_eq rfl rfl

theorem rotFrame_grows (r : Byte) (s : State) : QueuesGrow s (rotFrame r s) := by
  unfold rotFrame
  split <;> exact .of_eq rfl rfl

theorem dispatchFrame_grows (k : RxKind) (pl : List Byte) (s : State) :
    Leads (QueuesGrow s) (dispatchFrame k pl s) := by
  intro t h
  rcases dispatchFrame_cases h with ⟨v, xp, yp, -, -, rfl⟩ | ⟨n, d, -, -, rfl⟩ |
    ⟨c0, c1, -, -, rfl⟩ | ⟨-, -, rfl⟩ | ⟨s0, s1, -, -, rfl⟩ | ⟨r, -, -, rfl⟩ | ⟨n, -, rfl⟩
  · exact keyFrame_grows v xp yp s
  · exact encFrame_grows n d s
  · exact infoCapsFrame_grows c0 c1 s
  · exact .of_eq rfl rfl
  · exact sizeFrame_grows s0 s1 s
  · exact rotFrame_grows r s
  · exact .of_eq rfl rfl

theorem rxStart_grows (b : Byte) (s : State) : Leads (QueuesGrow s) (rxStart b s) := by
  intro t h
  rcases rxStart_cases h with ⟨-, rfl⟩ | ⟨e, -, -, hd⟩ | ⟨e, -, -, rfl⟩
  · exact .of_eq rfl rfl
  · exact dispatchFrame_grows _ _ s t hd
  · exact .of_eq rfl rfl

theorem rxCollect_grows (b : Byte) (s : State) : Leads (QueuesGrow s) (rxCollect b s) := by
  intro t h
  have hstored : QueuesGrow s (storePayload b s) := .of_eq rfl rfl
  obtain ⟨-, ⟨-, rfl⟩ | ⟨-, e, u, -, hd, rfl⟩⟩ := rxCollect_cases h
  · exact hstored
  · exact (hstored.trans (dispatchFrame_grows _ _ _ u hd)).trans (.of_eq rfl rfl)

theorem rxStep_grows (b : Byte) (s : State) : Leads (QueuesGrow s) (rxStep b s) := by
  unfold rxStep
  split
  · exact rxStart_grows b s
  · exact rxCollect_grows b s

theorem execRxbyte_grows (s : State) : Leads (QueuesGrow s) (execRxbyte s) := by
  unfold execRxbyte
  split
  · exact leads_next.2 (.of_eq rfl rfl)
  · split
    · exact leads_next.2 (.of_eq rfl rfl)
    · rename_i b rest _
      have htaken : QueuesGrow s { s with rxs := rest } := .of_eq rfl rfl
      exact (rxStep_grows b _).andThen fun u hu =>
        leads_next.2 ((htaken.trans hu).trans (.of_eq rfl rfl))

/-- The operations of PROD's port (rules R72, R236). -/
theorem portAllows_prod {cfg : Params} {i : Instr} (h : portAllows cfg .prod i = true) :
    (∃ x y pressed, i = .addg x y pressed) ∨ (∃ index delta, i = .adda index delta) ∨
      i = .rxbyte := by
  cases i with
  | addg x y pressed => exact .inl ⟨x, y, pressed, rfl⟩
  | adda index delta => exact .inr (.inl ⟨index, delta, rfl⟩)
  | rxbyte => exact .inr (.inr rfl)
  | _ => cases h

theorem exec_prod_grows {s : State} {i : Instr} (h : portAllows s.cfg .prod i = true) :
    Leads (QueuesGrow s) (exec i s) := by
  rcases portAllows_prod h with ⟨x, y, pressed, rfl⟩ | ⟨index, delta, rfl⟩ | rfl
  · exact leads_next.2 ((qAddG_grows _ s).trans (.of_eq rfl rfl))
  · exact leads_next.2 ((qAddA_grows _ s).trans (.of_eq rfl rfl))
  · exact execRxbyte_grows s

theorem prodServed_grows (s : State) : Leads (QueuesGrow s) (prodServed s) := by
  intro t h
  rcases prodServed_cases h with ⟨-, rfl⟩ | ⟨cw, rest, -, hi⟩
  · exact .of_eq rfl rfl
  · have htaken : QueuesGrow s { s with prodProg := rest } := .of_eq rfl rfl
    rcases issue_cases hi with ⟨i, -, ha, hx⟩ | ⟨e, -, rfl⟩
    · exact htaken.trans (exec_prod_grows ha t hx)
    · exact .of_eq rfl rfl

/-- A step that is not HOST's takes nothing from the queues. -/
theorem step_grows {s t : State} {turn : Turn} {turns : List Turn}
    (hs : s.schedule = turn :: turns) (hne : turn ≠ .host) (h : step s = .next t) :
    QueuesGrow s t := by
  obtain ⟨-, ⟨hs', -⟩ | ⟨rest, hs', -⟩ | ⟨rest, -, ht⟩ | ⟨b, rest, -, rfl⟩ | ⟨rest, -, rfl⟩⟩ :=
    step_cases h
  · rw [hs] at hs'
    cases hs'
  · rw [hs] at hs'
    cases hs'
    exact absurd rfl hne
  · have hserved : QueuesGrow s { s with port := .prod, schedule := rest } := .of_eq rfl rfl
    exact hserved.trans (prodServed_grows _ t ht)
  · exact .of_eq rfl rfl
  · exact .of_eq rfl rfl

/-- Settles O24: PROD's port has the two adds and RXBYTE only, and none of these, and no turn of
ENV, reads an event. -/
theorem availabilityIsStable : Obligations.AvailabilityIsStable := by
  intro s t turn turns hs hne h
  obtain ⟨hgh, hgc, hah, hac⟩ := step_grows hs hne h
  exact ⟨hgh, hgc, hah, hac⟩

end Sys2Proof.Machine
end

section
/-! SUPPORT. The event queues are first in, first out (rules R64, R111): one induction over a run of
operations that each answer, and one argument for both queues over the laws of the ring buffer. -/

namespace Sys2Proof.Machine

/-! ### Runs of operations with nothing between them -/

theorem execAll_cons {i : Instr} {is : List Instr} {s t u : State} {r : Response}
    {rs : List Response} (hi : exec i s = .next t) (hr : t.servedResp = some r)
    (his : execAll is t = some (rs, u)) : execAll (i :: is) s = some (r :: rs, u) := by
  simp [execAll, hi, hr, his]

theorem execAll_append {is js : List Instr} {s t u : State} {rs qs : List Response}
    (hi : execAll is s = some (rs, t)) (hj : execAll js t = some (qs, u)) :
    execAll (is ++ js) s = some (rs ++ qs, u) := by
  induction is generalizing s rs with
  | nil =>
    cases hi
    exact hj
  | cons i is ih =>
    simp only [execAll] at hi
    split at hi
    · rename_i v hv
      obtain ⟨⟨rs', t'⟩, hrest, heq⟩ := Option.map_eq_some_iff.1 hi
      cases heq
      simp [execAll, hv, ih hrest]
    · cases hi

/-- A run answers as its operations do: `R bs s` says that the operations of `bs` are still to come
in `s`, and each operation leaves it true of the rest. -/
theorem execAll_map {β : Type} {op : β → Instr} {resp : β → Response}
    {R : List β → State → Prop}
    (hop : ∀ b bs s, R (b :: bs) s →
      ∃ t, exec (op b) s = .next t ∧ t.servedResp = some (resp b) ∧ R bs t)
    {bs : List β} {s : State} (h : R bs s) :
    ∃ t, execAll (bs.map op) s = some (bs.map resp, t) ∧ R [] t := by
  induction bs generalizing s with
  | nil => exact ⟨s, rfl, h⟩
  | cons b bs ih =>
    obtain ⟨t, ht, hr, hR⟩ := hop b bs s h
    obtain ⟨u, hu, hend⟩ := ih hR
    exact ⟨u, execAll_cons ht hr hu, hend⟩

/-! ### A queue between its adds and its reads -/

section
variable {α : Type} [DecidableEq α] {z : α} {queue : State → Ring α}

/-- The queue still takes the events `es`, and then holds `all`. -/
def Filling (z : α) (queue : State → Ring α) (all es : List α) (s : State) : Prop :=
  (queue s).Sound z ∧ (queue s).contents z ++ es = all

/-- The queue holds just the events `es`. -/
def Holding (z : α) (queue : State → Ring α) (es : List α) (s : State) : Prop :=
  (queue s).Sound z ∧ (queue s).contents z = es

theorem Filling.room {all es : List α} {e : α} {s : State} (hall : all.length ≤ qcap)
    (h : Filling z queue all (e :: es) s) : (queue s).count < qcap := by
  obtain ⟨-, hcont⟩ := h
  have hlen := congrArg List.length hcont
  simp only [List.length_append, Ring.contents_length, List.length_cons] at hlen
  omega

theorem Filling.push {all es : List α} {e : α} {s t : State} (hall : all.length ≤ qcap)
    (h : Filling z queue all (e :: es) s) (ht : queue t = (queue s).push z e) :
    Filling z queue all es t := by
  have hroom := h.room hall
  obtain ⟨hsound, hcont⟩ := h
  refine ⟨ht ▸ hsound.push hroom.ne e, ?_⟩
  rw [ht, Ring.contents_push e hsound.canonical hroom, List.append_assoc]
  exact hcont

theorem Holding.count_eq {es : List α} {s : State} (h : Holding z queue es s) :
    (queue s).count = es.length := by
  rw [← h.2, Ring.contents_length]

theorem Holding.pop {es : List α} {e : α} {s : State} (h : Holding z queue (e :: es) s) :
    (queue s).front z = e ∧ ∀ t, queue t = (queue s).pop → Holding z queue es t := by
  have hne : (queue s).count ≠ 0 := by simp [h.count_eq]
  obtain ⟨hsound, hcont⟩ := h
  rw [Ring.contents_pop hsound.bounded.1 hne] at hcont
  obtain ⟨hfront, hrest⟩ := List.cons.inj hcont
  exact ⟨hfront, fun t ht => ⟨ht ▸ hsound.pop, ht ▸ hrest⟩⟩

/-- A queue is first in, first out if its add appends to the ring buffer where there is room, and
its read shows and removes the front where there is an event. -/
theorem execAll_fifo {add : α → Instr} {read : Instr} {shown : α → Response}
    (hadd : ∀ e s, (queue s).count < qcap → ∃ t, exec (add e) s = .next t ∧
      t.servedResp = some ⟨0, 0, 0, 0⟩ ∧ queue t = (queue s).push z e)
    (hread : ∀ s, (queue s).head < qcap → (queue s).count ≠ 0 → ∃ t, exec read s = .next t ∧
      t.servedResp = some (shown ((queue s).front z)) ∧ queue t = (queue s).pop)
    {s : State} {es : List α} (hlen : es.length ≤ qcap) (hs : (queue s).Sound z)
    (hempty : (queue s).count = 0) :
    ∃ t, execAll (es.map add ++ List.replicate es.length read) s
        = some (List.replicate es.length ⟨0, 0, 0, 0⟩ ++ es.map shown, t)
      ∧ (queue t).count = 0 := by
  have hstart : Filling z queue es es s := ⟨hs, by simp [Ring.contents, hempty]⟩
  obtain ⟨u, hadds, hfull⟩ := execAll_map (op := add) (resp := fun _ => ⟨0, 0, 0, 0⟩)
    (R := Filling z queue es) (fun e es' s h => by
      obtain ⟨t, ht, hresp, hq⟩ := hadd e s (h.room hlen)
      exact ⟨t, ht, hresp, h.push hlen hq⟩) hstart
  have hheld : Holding z queue es u := by simpa [Filling, Holding] using hfull
  obtain ⟨t, hreads, hend⟩ := execAll_map (op := fun _ => read) (resp := shown)
    (R := Holding z queue) (fun e es' s h => by
      obtain ⟨hfront, hrest⟩ := h.pop
      obtain ⟨t, ht, hresp, hq⟩ := hread s h.1.bounded.1 (by simp [h.count_eq])
      exact ⟨t, ht, hfront ▸ hresp, hrest t hq⟩) hheld
  rw [List.map_const'] at hadds hreads
  exact ⟨t, execAll_append hadds hreads, hend.count_eq⟩

end

/-! ### The operations of the two queues -/

@[simp] theorem servedResp_respond (s : State) (r : Response) :
    (respond s r).servedResp = some r := by
  cases h : s.port <;> simp [State.servedResp, h]

section
variable {s : State}

/-- An add where there is room appends the event and answers OK (rules R100, R104). -/
theorem exec_addg_room (e : GridEvent) (h : s.gq.count < qcap) :
    exec (.addg e.x e.y e.pressed) s
      = .next (done { s with gq := s.gq.push GridEvent.zero e } 0 0 0) := by
  rw [exec, execAddg, qAddG, if_neg h.ne]

theorem exec_adda_room (e : ArcEvent) (h : s.aq.count < qcap) :
    exec (.adda e.index e.delta) s
      = .next (done { s with aq := s.aq.push ArcEvent.zero e } 0 0 0) := by
  rw [exec, execAdda, qAddA, if_neg h.ne]

/-- A read of a queue with an event answers the oldest and removes it (rules R102, R108). -/
theorem exec_rdg_front (hh : s.gq.head < qcap) (hc : s.gq.count ≠ 0) :
    exec .rdg s = .next (done { s with gq := s.gq.pop } (s.gq.front GridEvent.zero).x
      (s.gq.front GridEvent.zero).y (bitByte (s.gq.front GridEvent.zero).pressed)) := by
  simp [exec, execRdg, Ring.empty, hh, hc]

theorem exec_rda_front (hh : s.aq.head < qcap) (hc : s.aq.count ≠ 0) :
    exec .rda s = .next (done { s with aq := s.aq.pop } (s.aq.front ArcEvent.zero).index
      (s.aq.front ArcEvent.zero).delta 0) := by
  simp [exec, execRda, Ring.empty, hh, hc]

end

/-- Settles O23: each queue's operations are those of its ring buffer. -/
theorem queuesAreFifo : Obligations.QueuesAreFifo := by
  refine ⟨fun s es hlen hc hh hw => ?_, fun s es hlen hc hh hw => ?_⟩
  · refine execAll_fifo (queue := State.gq) (shown := fun e => ⟨0, e.x, e.y, bitByte e.pressed⟩)
      (fun e s hroom => ⟨_, exec_addg_room e hroom, servedResp_respond _ _, rfl⟩)
      (fun s hh hc => ⟨_, exec_rdg_front hh hc, servedResp_respond _ _, rfl⟩)
      hlen ⟨hw, hh, ?_⟩ hc
    omega
  · refine execAll_fifo (queue := State.aq) (shown := fun e => ⟨0, e.index, e.delta, 0⟩)
      (fun e s hroom => ⟨_, exec_adda_room e hroom, servedResp_respond _ _, rfl⟩)
      (fun s hh hc => ⟨_, exec_rda_front hh hc, servedResp_respond _ _, rfl⟩)
      hlen ⟨hw, hh, ?_⟩ hc
    omega

end Sys2Proof.Machine
end

section
/-! SUPPORT. The rotation mapping is one bijection, used by the LedFrame setters and by the key
frames alike (rules R54, R58 to R62, R124, R152). -/

namespace Sys2Proof.Machine

/-! ### The mappings (rules R58 to R61) -/

/-- The sense of rotation enters a mapping through the row it selects only. -/
theorem rotFwd_turn (d : RotDir) (r : BitVec 2) (w h x y : Nat) :
    rotFwd d r w h x y = rotFwd .cw (turn d r) w h x y := rfl

theorem rotInv_turn (d : RotDir) (r : BitVec 2) (w h x y : Nat) :
    rotInv d r w h x y = rotInv .cw (turn d r) w h x y := rfl

theorem rotation_cases (r : BitVec 2) : r = 0#2 ∨ r = 1#2 ∨ r = 2#2 ∨ r = 3#2 := by
  revert r; decide

/-- Exchanging the rows for 1 and 3 keeps the logical rectangle. -/
theorem logicalRect_turn (d : RotDir) (r : BitVec 2) (w h : Nat) :
    logicalRect (turn d r) w h = logicalRect r w h := by
  cases d with
  | cw => rfl
  | ccw => rcases rotation_cases r with rfl | rfl | rfl | rfl <;> rfl

section
variable {d : RotDir} {r : BitVec 2} {w h x y : Nat}

/-- Inside the physical rectangle the inverse mapping lands in the logical one. -/
theorem rotInv_lt (hx : x < w) (hy : y < h) :
    (rotInv d r w h x y).1 < (logicalRect r w h).1 ∧
      (rotInv d r w h x y).2 < (logicalRect r w h).2 := by
  rw [rotInv_turn, ← logicalRect_turn d r]
  generalize turn d r = row
  rcases rotation_cases row with rfl | rfl | rfl | rfl <;>
    simp only [rotInv, turn, logicalRect] <;> omega

theorem rotInv_rotFwd (hx : x < (logicalRect r w h).1) (hy : y < (logicalRect r w h).2) :
    rotInv d r w h (rotFwd d r w h x y).1 (rotFwd d r w h x y).2 = (x, y) := by
  rw [← logicalRect_turn d r] at hx hy
  rw [rotInv_turn, rotFwd_turn]
  generalize turn d r = row at hx hy ⊢
  rcases rotation_cases row with rfl | rfl | rfl | rfl <;>
    simp only [rotInv, rotFwd, turn, logicalRect, Prod.mk.injEq, true_and, and_true] at hx hy ⊢ <;>
    omega

theorem rotFwd_rotInv (hx : x < w) (hy : y < h) :
    rotFwd d r w h (rotInv d r w h x y).1 (rotInv d r w h x y).2 = (x, y) := by
  rw [rotInv_turn, rotFwd_turn]
  generalize turn d r = row
  rcases rotation_cases row with rfl | rfl | rfl | rfl <;>
    simp only [rotInv, rotFwd, turn, Prod.mk.injEq, true_and, and_true] <;> omega

/-- The logical rectangle has the physical one's two sides. -/
theorem logicalRect_le {n : Nat} (hw : w ≤ n) (hh : h ≤ n) :
    (logicalRect r w h).1 ≤ n ∧ (logicalRect r w h).2 ≤ n := by
  rcases rotation_cases r with rfl | rfl | rfl | rfl <;> simp [logicalRect, hw, hh]

end

/-- Settles O36: the rows by evaluation; each mapping lands in the other's rectangle and
undoes it. -/
theorem rotationIsBijection : Obligations.RotationIsBijection := by
  refine ⟨fun w h x y => ⟨fun _ _ => ⟨rfl, rfl, rfl, rfl⟩, fun _ _ => ⟨rfl, rfl, rfl, rfl⟩,
    fun _ _ => ⟨rfl, rfl, rfl, rfl, rfl, rfl, rfl, rfl⟩, rfl, rfl, rfl, rfl⟩,
    fun d r w h x y _ _ => ⟨fun hx hy => ?_, fun hx hy => ?_⟩⟩
  · obtain ⟨hx', hy'⟩ := rotFwd_lt (d := d) hx hy
    exact ⟨hx', hy', rotInv_rotFwd hx hy⟩
  · obtain ⟨hx', hy'⟩ := rotInv_lt (d := d) (r := r) hx hy
    exact ⟨hx', hy', rotFwd_rotInv hx hy⟩

/-! ### The key frames (rule R124) -/

/-- The event of a key frame: the inverse rotated coordinates as bytes. -/
def keyEvent (s : State) (v : Bool) (xp yp : Byte) : GridEvent :=
  let (x, y) := rotInv s.cfg.rotDir s.rotation s.columns.toNat s.rows.toNat xp.toNat yp.toNat
  ⟨BitVec.ofNat 8 x, BitVec.ofNat 8 y, v⟩

section
variable {s : State} {xp yp : Byte}

/-- Every logical coordinate of a key fits a byte, since the dimensions are bytes. -/
theorem keyEvent_coordinates (v : Bool) (hx : xp.toNat < s.columns.toNat)
    (hy : yp.toNat < s.rows.toNat) :
    ((keyEvent s v xp yp).x.toNat, (keyEvent s v xp yp).y.toNat) =
      rotInv s.cfg.rotDir s.rotation s.columns.toNat s.rows.toNat xp.toNat yp.toNat := by
  obtain ⟨hx', hy'⟩ := rotInv_lt (d := s.cfg.rotDir) (r := s.rotation) hx hy
  obtain ⟨hlw, hlh⟩ := logicalRect_le (r := s.rotation) (n := 255)
    (Nat.le_of_lt_succ s.columns.isLt) (Nat.le_of_lt_succ s.rows.isLt)
  simp only [keyEvent, BitVec.toNat_ofNat]
  rw [Nat.mod_eq_of_lt (by omega), Nat.mod_eq_of_lt (by omega)]

/-- An accepted key frame with a place in the queue is one add. -/
theorem keyFrame_room (v : Bool) (hm : gridMode s = true) (hx : xp.toNat < s.columns.toNat)
    (hy : yp.toNat < s.rows.toNat) (hc : s.gq.count < qcap) :
    keyFrame v xp yp s = { s with gq := s.gq.push GridEvent.zero (keyEvent s v xp yp) } := by
  rw [keyFrame, if_pos ⟨hm, hx, hy⟩]
  exact if_neg hc.ne

theorem keyFrame_contents (v : Bool) (hm : gridMode s = true) (hx : xp.toNat < s.columns.toNat)
    (hy : yp.toNat < s.rows.toNat) (hc : s.gq.count < qcap)
    (hw : Memory.wf GridEvent.zero qcap s.gq.buf = true) :
    (keyFrame v xp yp s).gq.contents GridEvent.zero
      = s.gq.contents GridEvent.zero ++ [keyEvent s v xp yp] := by
  rw [keyFrame_room v hm hx hy hc]
  exact Ring.contents_push _ hw hc

/-! ### The setters and the key frames together (rule R62) -/

theorem inLogicalRect_iff {x y : Byte} : inLogicalRect s x y = true ↔
    x.toNat < (logicalRect s.rotation s.columns.toNat s.rows.toNat).1 ∧
      y.toNat < (logicalRect s.rotation s.columns.toNat s.rows.toNat).2 := by
  simp [inLogicalRect]

/-- The key at the physical cell of logical `(x, y)` reports `(x, y)`. -/
theorem keyEvent_rotFwd {x y : Byte} (v : Bool) (hr : inLogicalRect s x y = true)
    (hp : (xp.toNat, yp.toNat) =
      rotFwd s.cfg.rotDir s.rotation s.columns.toNat s.rows.toNat x.toNat y.toNat) :
    keyEvent s v xp yp = ⟨x, y, v⟩ := by
  obtain ⟨hx, hy⟩ := inLogicalRect_iff.1 hr
  have hback := rotInv_rotFwd (d := s.cfg.rotDir) hx hy
  rw [← hp] at hback
  simp [keyEvent, hback]

end

/-- Settles O31: an accepted key frame is one add of its event, whose coordinates are bytes. -/
theorem keyFrameEnqueuesLogicalEvent : Obligations.KeyFrameEnqueuesLogicalEvent := by
  intro s xp yp hm hx hy hc hw
  exact ⟨⟨_, congrArg Host.Outcome.next (keyFrame_room true hm hx hy hc), rfl, rfl, _,
      Ring.contents_push _ hw hc, rfl, keyEvent_coordinates true hx hy⟩,
    ⟨_, congrArg Host.Outcome.next (keyFrame_room false hm hx hy hc), rfl, rfl, _,
      Ring.contents_push _ hw hc, rfl, keyEvent_coordinates false hx hy⟩⟩

/-- Settles O37: the inverse mapping undoes the setters' mapping. -/
theorem keyAtLitCellReportsItsCoordinates : Obligations.KeyAtLitCellReportsItsCoordinates := by
  intro s x y xp yp hm hr hp hc hw
  obtain ⟨hx, hy⟩ : xp.toNat < s.columns.toNat ∧ yp.toNat < s.rows.toNat := by
    obtain ⟨hx, hy⟩ := inLogicalRect_iff.1 hr
    have hphys := rotFwd_lt (d := s.cfg.rotDir) hx hy
    rwa [← hp] at hphys
  have hreport (v : Bool) : (keyFrame v xp yp s).gq.contents GridEvent.zero
      = s.gq.contents GridEvent.zero ++ [⟨x, y, v⟩] := by
    rw [keyFrame_contents v hm hx hy hc hw, keyEvent_rotFwd v hr hp]
  have hcell : gridCell s x y = yp.toNat * s.columns.toNat + xp.toNat := by
    rw [gridCell, ← hp]
    rfl
  exact ⟨hcell, ⟨_, rfl, hreport true⟩, _, rfl, hreport false⟩

end Sys2Proof.Machine
end

section
/-! SUPPORT. The setters of one LedFrame cell (rules R54, R55, R59, R152 to R155). -/

namespace Sys2Proof.Machine

/-- What LedFrame reads as after a cell took a level. -/
theorem ledRead_ledWrite {s : State} (hw : Memory.wf 0 ledn s.led = true) (i j : Nat) (v : Byte) :
    ledRead (ledWrite s i v) j = if j = i then v else ledRead s j := by
  simp only [ledRead, ledWrite, Memory.read_write hw, eq_comm (a := i)]

section
variable {s : State}

theorem setGridLed_accepted {x y : Byte} (v : Byte) (hm : gridMode s = true)
    (hr : inLogicalRect s x y = true) (hcell : gridCell s x y < ledn) :
    setGridLed x y v s
      = .next (done { ledWrite s (gridCell s x y) v with gridDirty := true } 0 0 0) := by
  simp [setGridLed, hm, hr, hcell]

theorem setArcLed_accepted {n l : Byte} (v : Byte) (hm : arcMode s = true)
    (hn : n.toNat < s.encoders.toNat) (hl : l.toNat < ringLeds)
    (hcell : ledIndexArc n.toNat l.toNat < ledn) :
    setArcLed n l v s
      = .next (done
          { ledWrite s (ledIndexArc n.toNat l.toNat) v with arcDirty := true } 0 0 0) := by
  simp [setArcLed, hm, hn, hl, hcell]

end

/-- Settles O38: SETGLED and CLRGLED are one write of LedFrame, inside it by the dimensions. -/
theorem gridSettersWriteOneCell : Obligations.GridSettersWriteOneCell := by
  intro s x y v hm hr hd hw
  have hcell : gridCell s x y < ledn := gridCell_lt hd hr
  exact ⟨hcell,
    ⟨_, setGridLed_accepted v hm hr hcell, rfl, fun i => ledRead_ledWrite hw _ i v⟩,
    ⟨_, setGridLed_accepted 0 hm hr hcell, rfl, fun i => ledRead_ledWrite hw _ i 0⟩⟩

/-- Settles O39: SETALED and CLRALED are one write of LedFrame, inside it for the four rings. -/
theorem arcSettersWriteOneCell : Obligations.ArcSettersWriteOneCell := by
  intro s n l v hm hn hl he hw
  have hcell : ledIndexArc n.toNat l.toNat < ledn := by
    simp only [ledIndexArc, ringLeds, ledn]
    omega
  exact ⟨⟨_, setArcLed_accepted v hm hn hl hcell, rfl, fun i => ledRead_ledWrite hw _ i v⟩,
    ⟨_, setArcLed_accepted 0 hm hn hl hcell, rfl, fun i => ledRead_ledWrite hw _ i 0⟩⟩

end Sys2Proof.Machine
end

section
/-! SUPPORT. Emissions by ENV's answer (rules R44, R150, R224): what one leaves on the stream, the
sent frames and the operations with one emission, and a frame of a refresh, the first or a later one
(rules R159 to R161). -/

namespace Sys2Proof.Machine

/-! ### One emission -/

section
variable {s : State} {bs : List Byte} {k : Nat}

theorem txEmit_ok (h : nextOutcome s = .ok) :
    txEmit bs s
      = { s with txs := s.txs ++ bs, txPlan := s.txPlan.tail, txSeq := s.txSeq + 1 } := by
  rw [txEmit, h, bytesSent]

theorem txEmit_fail (h : nextOutcome s = .fail k) :
    txEmit bs s
      = { s with txs := s.txs ++ bs.take k, txPlan := s.txPlan.tail, txSeq := s.txSeq + 1 } := by
  rw [txEmit, h, bytesSent]

/-- A failure of an operation's first emission ends the operation as `emissionFailed` says. -/
theorem emitThen_emissionFailed {go : State → State} (h : nextOutcome s = .fail k) :
    emitThen false bs s go = emissionFailed k bs s := by
  rw [emitThen_fail h, txEmit_fail h]
  rfl

end

/-- Settles O51: each sent frame is the emission of its bytes, outside any operation. -/
theorem sentFramesReachTheStream : Obligations.SentFramesReachTheStream := by
  intro s i bs hframe
  have hrun : exec i s = .next (emitOnly bs s) := by
    rcases hframe with ⟨p0, p1, rfl, rfl⟩ | ⟨r, rfl, rfl⟩ | ⟨xo, yo, l, rfl, rfl⟩ |
      ⟨n, l, rfl, rfl⟩ | ⟨n, x, y, z, rfl, rfl⟩ | ⟨rfl, rfl⟩
    all_goals rfl
  refine ⟨fun hok => ?_, fun sent hfail => ?_⟩
  · rw [hrun, emitOnly_ok hok, txEmit_ok hok]
  · rw [hrun, emitOnly_fail hfail, txEmit_fail hfail]
    rfl

/-! ### The operations with one emission (rules R162, R163, R192, R211) -/

section
variable {s : State}

/-- SENDSIZE past its gates is the emission of its mode's size frame. -/
theorem exec_sendsize_emits (hc : s.configured = true) (ha : s.active = true) :
    exec .sendsize s
      = .next (emitThen false (s.cfg.profile.txSize.cmd :: sizePayload s) s
          fun t => done t 0 0 1) := by
  simp only [exec, execSendsize, hc, ha]
  rfl

theorem gridMode_iff : gridMode s = true ↔ s.configured = true ∧ s.isGrid = true := by
  simp [gridMode]

theorem arcMode_iff : arcMode s = true ↔ s.configured = true ∧ s.isGrid = false := by
  simp [arcMode]

theorem sizePayload_grid (h : gridMode s = true) : sizePayload s = [s.columns, s.rows] :=
  if_pos h

theorem sizePayload_arc (h : arcMode s = true) : sizePayload s = [s.encoders, 0] := by
  simp [sizePayload, gridMode, (arcMode_iff.1 h).2]

theorem rotation_ofNat (r : BitVec 2) : r.setWidth 8 = BitVec.ofNat 8 r.toNat := by
  revert r; decide

theorem exec_sendrot_emits (ha : s.active = true) :
    exec .sendrot s
      = .next (emitThen false [s.cfg.profile.txRot.cmd, BitVec.ofNat 8 s.rotation.toNat] s
          fun t => done t 0 0 1) := by
  rw [← rotation_ofNat]
  simp only [exec, execSendrot, ha]
  rfl

/-- SENDTILT stores a new sample of an active sensor and then is the emission of its frame. -/
theorem exec_sendtilt_emits {n : Byte} {x y z : Half} (hn : n.toNat < ntilt)
    (ha : s.active = true) (hon : (tiltRec s n.toNat).active = true)
    (hnew : ¬ tiltSuppressed (tiltRec s n.toNat) x y z = true) :
    exec (.sendtilt n x y z) s
      = .next (emitThen false
          (s.cfg.profile.txTilt.cmd :: tiltPayload s.cfg.profile n x y z)
          (storeTilt s n.toNat x y z) fun t => done t 0 0 1) := by
  simp only [exec, execSendtilt, if_neg (Nat.not_le.2 hn), ha, hon, hnew]
  rfl

/-- A sample of an active sensor fills its record. -/
theorem storeTilt_eq {n : Nat} (hon : (tiltRec s n).active = true) (x y z : Half) :
    storeTilt s n x y z
      = { s with tilt := Memory.write TiltRec.zero s.tilt n ⟨true, true, x, y, z⟩ } := by
  simp only [storeTilt, setTiltRec, hon]

end

/-- Settles O48: each operation past its gates is one emission, which fails. -/
theorem failedEmissionRaisesTransportError : Obligations.FailedEmissionRaisesTransportError := by
  intro s sent hfail
  refine ⟨fun ha hm => ?_, fun ha hm => ?_, fun ha => ?_, ?_, fun n x y z hn ha hon hnew => ?_⟩
  · rw [exec_sendsize_emits (gridMode_iff.1 hm).1 ha, emitThen_emissionFailed hfail,
      sizePayload_grid hm]
  · rw [exec_sendsize_emits (arcMode_iff.1 hm).1 ha, emitThen_emissionFailed hfail,
      sizePayload_arc hm]
  · rw [exec_sendrot_emits ha, emitThen_emissionFailed hfail]
  · exact congrArg Host.Outcome.next (emitThen_emissionFailed hfail)
  · have hstored : nextOutcome (storeTilt s n.toNat x y z) = .fail sent := hfail
    rw [← tiltSuppressed_iff] at hnew
    rw [exec_sendtilt_emits hn ha hon hnew, emitThen_emissionFailed hstored, storeTilt_eq hon]

/-! ### A frame of a refresh (rules R159 to R161) -/

theorem quads_pos {d : Nat} (h : 1 ≤ d) : 0 < quads d := by
  unfold quads
  omega

section
variable {s : State}

/-- A turn of the grid loop at one of its frames is the emission of that frame. -/
theorem gridTurn_frame {w h quad : Nat} (hwh : w * h ≤ ledn) (hq : quad < quads w * quads h)
    (sent thenArc : Bool) :
    gridTurn sent w h quad thenArc s
      = .next (emitThen sent (frameBytes s .gmap (gmapPayload s w h quad)) s fun t =>
          if quad + 1 < quads w * quads h then
            { t with job := .gridFrames w h (quad + 1) thenArc }
          else gridDone thenArc t) := by
  rw [gridTurn, if_pos hwh, if_pos hq]

theorem arcTurn_frame {rings ring : Nat} (hr : rings ≤ arcRings) (hlt : ring < rings)
    (sent : Bool) :
    arcTurn sent rings ring s
      = .next (emitThen sent (frameBytes s .amap (amapPayload s ring)) s fun t =>
          if ring + 1 < rings then { t with job := .arcFrames rings (ring + 1) }
          else arcDone t) := by
  rw [arcTurn, if_pos hlt, if_pos (ledIndexArc_ring_le (hlt.trans_le hr))]

/-- A block has one mode, so one region at most is due (rules R22, R165). -/
theorem State.Inv.arcDirty_eq_false (hs : s.Inv) (hd : s.gridDirty = true) :
    s.arcDirty = false := by
  obtain ⟨-, hgrid⟩ := gridMode_iff.1 (hs.dirty.1 hd)
  by_contra h
  obtain ⟨-, harc⟩ := arcMode_iff.1 (hs.dirty.2 (Bool.eq_true_of_not_eq_false h))
  rw [hgrid] at harc
  cases harc

theorem State.Inv.gridDirty_eq_false (hs : s.Inv) (hd : s.arcDirty = true) :
    s.gridDirty = false := by
  by_contra h
  rw [hs.arcDirty_eq_false (Bool.eq_true_of_not_eq_false h)] at hd
  cases hd

/-- A refresh of a due grid starts with the turn of quad 0. -/
theorem exec_refresh_grid (ha : s.active = true) (hd : s.gridDirty = true) {i : Instr}
    (hi : i = .refreshg ∨ i = .refresh) :
    ∃ thenArc, exec i s = gridTurn false s.columns.toNat s.rows.toNat 0 thenArc s := by
  rcases hi with rfl | rfl
  · exact ⟨false, by simp [exec, execRefreshg, ha, hd]⟩
  · exact ⟨true, by simp [exec, execRefresh, ha, hd]⟩

/-- A refresh of a due arc starts with the turn of ring 0. -/
theorem exec_refresh_arc (hs : s.Inv) (ha : s.active = true) (hd : s.arcDirty = true) {i : Instr}
    (hi : i = .refresha ∨ i = .refresh) :
    exec i s = arcTurn false s.encoders.toNat 0 s := by
  rcases hi with rfl | rfl
  · simp [exec, execRefresha, ha, hd]
  · simp [exec, execRefresh, ha, hd, hs.gridDirty_eq_false hd]

/-- The first step of a refresh of a due grid is the emission of quad 0's frame. -/
theorem exec_refresh_grid_emits (hs : s.Inv) (ha : s.active = true) (hd : s.gridDirty = true)
    {i : Instr} (hi : i = .refreshg ∨ i = .refresh) :
    ∃ thenArc, exec i s = .next (emitThen false
      (frameBytes s .gmap (gmapPayload s s.columns.toNat s.rows.toNat 0)) s fun t =>
        if 1 < quads s.columns.toNat * quads s.rows.toNat then
          { t with job := .gridFrames s.columns.toNat s.rows.toNat 1 thenArc }
        else gridDone thenArc t) := by
  obtain ⟨thenArc, hrun⟩ := exec_refresh_grid ha hd hi
  obtain ⟨hrows, hcolumns, -⟩ := hs.dims.1 (hs.dirty.1 hd)
  have hquad : 0 < quads s.columns.toNat * quads s.rows.toNat :=
    Nat.mul_pos (quads_pos hcolumns) (quads_pos hrows)
  exact ⟨thenArc, hrun.trans (gridTurn_frame (hs.gridDirty_area hd) hquad _ _)⟩

/-- The first step of a refresh of a due arc is the emission of ring 0's frame. -/
theorem exec_refresh_arc_emits (hs : s.Inv) (ha : s.active = true) (hd : s.arcDirty = true)
    {i : Instr} (hi : i = .refresha ∨ i = .refresh) :
    exec i s = .next (emitThen false (frameBytes s .amap (amapPayload s 0)) s fun t =>
      if 1 < s.encoders.toNat then { t with job := .arcFrames s.encoders.toNat 1 }
      else arcDone t) := by
  obtain ⟨hpos, hle⟩ := hs.dims.2.1 (hs.dirty.2 hd)
  rw [exec_refresh_arc hs ha hd hi, arcTurn_frame hle hpos]

/-- HOST's turn in the middle of a grid refresh. -/
theorem step_gridFrames (hs : s.Inv) (hsched : s.schedule = []) {w h quad : Nat} {thenArc : Bool}
    (hj : s.job = .gridFrames w h quad thenArc) :
    step s = gridTurn true w h quad thenArc { s with port := .host } := by
  rw [step_schedule_nil hs.profile hsched, hostTurn_job (by simp [hj]), jobTurn, hj]

/-- HOST's turn in the middle of an arc refresh. -/
theorem step_arcFrames (hs : s.Inv) (hsched : s.schedule = []) {rings ring : Nat}
    (hj : s.job = .arcFrames rings ring) :
    step s = arcTurn true rings ring { s with port := .host } := by
  rw [step_schedule_nil hs.profile hsched, hostTurn_job (by simp [hj]), jobTurn, hj]

/-- A failure of a later frame ends the refresh with `d0[0] = 1` in HOST's response (rule R74). -/
theorem emitThen_laterFailed {bs : List Byte} {go : State → State} {k : Nat}
    (hfail : nextOutcome s = .fail k) :
    emitThen true bs { s with port := .host } go
      = { s with
        port := .host, job := .idle, hostResp := some ⟨0x05, 0, 0, 1⟩
        active := false, probing := false, rx := { s.rx with state := .idle }
        txs := s.txs ++ bs.take k, txPlan := s.txPlan.tail, txSeq := s.txSeq + 1 } := by
  have hserved : nextOutcome { s with port := .host } = .fail k := hfail
  rw [emitThen_fail hserved, txEmit_fail hserved]
  rfl

end

/-- Settles O46: each step named is the emission of its frame, whose failure ends the refresh. -/
theorem failedRefreshKeepsDirtyFlags : Obligations.FailedRefreshKeepsDirtyFlags := by
  intro s sent hs hfail
  have hjob := hs.job
  refine ⟨fun ha hd i hi => ?_, fun ha hd i hi => ?_, fun hsched w h quad thenArc hj => ?_,
    fun hsched rings ring hj => ?_⟩
  · obtain ⟨thenArc, hrun⟩ := exec_refresh_grid_emits hs ha hd hi
    rw [hrun, emitThen_emissionFailed hfail]
  · rw [exec_refresh_arc_emits hs ha hd hi, emitThen_emissionFailed hfail]
  · simp only [State.jobOk, hj] at hjob
    obtain ⟨harea, hquad⟩ := hjob
    rw [step_gridFrames hs hsched hj, gridTurn_frame harea hquad, emitThen_laterFailed hfail]
    rfl
  · simp only [State.jobOk, hj] at hjob
    obtain ⟨hrings, hring⟩ := hjob
    rw [step_arcFrames hs hsched hj, arcTurn_frame hrings hring, emitThen_laterFailed hfail]
    rfl

/-! ### The frame that ends a refresh (rules R159 to R161) -/

/-- The grid loop's end where no arc part follows. -/
theorem gridDone_answers {s : State} (thenArc : Bool) (h : s.arcDirty = false) :
    gridDone thenArc s = done { s with gridDirty := false, job := .idle } 0 0 1 := by
  simp [gridDone, h]

/-- An answer given twice is the answer given once. -/
theorem respond_respond (s : State) (r : Response) : respond (respond s r) r = respond s r := by
  cases h : s.port <;> simp [respond, h]

/-- Settles O42: the step is the emission of the first frame, after which the loop goes on or is
over. -/
theorem refreshSendsFirstFrame : Obligations.RefreshSendsFirstFrame := by
  intro s hs ha hok
  refine ⟨fun hd i hi => ?_, fun hd i hi => ?_⟩
  · have harc := hs.arcDirty_eq_false hd
    obtain ⟨thenArc, hrun⟩ := exec_refresh_grid_emits hs ha hd hi
    rw [hrun, emitThen_ok hok, txEmit_ok hok]
    split_ifs with hmore
    · refine ⟨_, rfl, rfl, rfl, ?_⟩
      simp [hd, hmore]
    · refine ⟨_, congrArg Host.Outcome.next (gridDone_answers thenArc harc), rfl, rfl, ?_⟩
      simp [hmore, done, respond_respond]
  · rw [exec_refresh_arc_emits hs ha hd hi, emitThen_ok hok, txEmit_ok hok]
    split_ifs with hmore
    · refine ⟨_, rfl, rfl, rfl, ?_⟩
      simp [hd, hmore]
    · refine ⟨_, rfl, rfl, rfl, ?_⟩
      simp [hmore, arcDone, done, respond_respond]

end Sys2Proof.Machine
end

section
/-! SUPPORT. The decoder and the encoder (rules R70 to R83): the fields of a command word, the
operation map, the frame tables, that the decoder inverts the encoder, and what a word outside the
map or on the wrong port does. -/

namespace Sys2Proof.Machine

/-! ### The fields of a command word (rules R70, R71, R82) -/

/-- Settles O3: a field is a shift and a remainder, and a one-bit operand is one bit of the word. -/
theorem fieldsAreTheNamedSlices : Obligations.FieldsAreTheNamedSlices := by
  intro cw
  have slice (start len : Nat) :
      (cw.extractLsb' start len).toNat = cw.toNat / 2 ^ start % 2 ^ len := by
    rw [BitVec.extractLsb'_toNat, Nat.shiftRight_eq_div_pow]
  have op_lt : cw.toNat / 2 ^ 56 < 2 ^ 8 := Nat.div_lt_of_lt_mul cw.isLt
  have bit (start : Nat) :
      bitZero (cw.extractLsb' start 8) = true ↔ cw.toNat / 2 ^ start % 2 = 1 := by
    simp [bitZero, ← BitVec.testBit_toNat, Nat.testBit_eq_decide_div_mod_eq]
  exact ⟨(slice 56 8).trans (Nat.mod_eq_of_lt op_lt), slice 48 8, slice 40 8, slice 32 8,
    slice 32 16, slice 16 16, (slice 0 16).trans (by rw [pow_zero, Nat.div_one]), bit 32, bit 40⟩

@[simp] theorem bitZero_bitByte (v : Bool) : bitZero (bitByte v) = v := by
  cases v <;> rfl

section
variable (op a b c s : Byte) (x y z : Half)

@[simp] theorem fields_formatA :
    opField (formatA op a) = op ∧ aField (formatA op a) = a := by
  unfold opField aField formatA
  refine ⟨?_, ?_⟩
  all_goals repeat rw [BitVec.extractLsb'_append_eq_of_le (by decide)]
  · exact BitVec.extractLsb'_eq_self
  · exact BitVec.extractLsb'_append_eq_right

@[simp] theorem fields_formatAB :
    opField (formatAB op a b) = op ∧ aField (formatAB op a b) = a
      ∧ bField (formatAB op a b) = b := by
  unfold opField aField bField formatAB
  refine ⟨?_, ?_, ?_⟩
  all_goals repeat rw [BitVec.extractLsb'_append_eq_of_le (by decide)]
  · exact BitVec.extractLsb'_eq_self
  all_goals exact BitVec.extractLsb'_append_eq_right

@[simp] theorem fields_formatABC :
    opField (formatABC op a b c) = op ∧ aField (formatABC op a b c) = a
      ∧ bField (formatABC op a b c) = b ∧ cField (formatABC op a b c) = c := by
  unfold opField aField bField cField formatABC
  refine ⟨?_, ?_, ?_, ?_⟩
  all_goals repeat rw [BitVec.extractLsb'_append_eq_of_le (by decide)]
  · exact BitVec.extractLsb'_eq_self
  all_goals exact BitVec.extractLsb'_append_eq_right

@[simp] theorem fields_formatT :
    opField (formatT op s x y z) = op ∧ aField (formatT op s x y z) = s
      ∧ xField (formatT op s x y z) = x ∧ yField (formatT op s x y z) = y
      ∧ zField (formatT op s x y z) = z := by
  unfold opField aField xField yField zField formatT
  refine ⟨?_, ?_, ?_, ?_, ?_⟩
  all_goals repeat rw [BitVec.extractLsb'_append_eq_of_le (by decide)]
  · exact BitVec.extractLsb'_eq_self
  all_goals exact BitVec.extractLsb'_append_eq_right

end

/-! ### The operation map (rules R72, R73) -/

theorem decodeCommand_illegal {cw : Command} (h : opField cw ∉ opCodes) :
    decodeCommand cw = .error (.illegalOp (opField cw)) := by
  unfold decodeCommand
  split
  case h_29 => rfl
  all_goals exact absurd (by simp [opCodes, *]) h

/-- Settles O4: the rows of the map in its order, and then every other value. -/
theorem opMapIsExact : Obligations.OpMapIsExact := by
  refine ⟨rfl, fun cw => ?_⟩
  iterate 28 refine ⟨fun h => by rw [decodeCommand, h]; rfl, ?_⟩
  exact decodeCommand_illegal

/-- Settles O2: each word is decoded. -/
theorem specWordsDecode : Obligations.SpecWordsDecode := by
  unfold Obligations.SpecWordsDecode
  decide

/-- Settles O5: both words decode by the same row of the map (O4), to the same operands. -/
theorem unusedBitsAreIgnored : Obligations.UnusedBitsAreIgnored := by
  intro cw cw' hop
  simp only [List.mem_cons, List.not_mem_nil, or_false]
  refine ⟨fun h => ?_, fun h ha => ?_, fun h ha hb => ?_, fun h ha hb => ?_, fun h ha hb hc => ?_,
    fun h ha hb hc => ?_⟩
  · rcases h with h | h | h | h | h | h | h | h | h | h | h | h | h | h
    all_goals simp [opMapIsExact.2, ← hop, h]
  · rcases h with h | h | h | h | h
    all_goals simp [opMapIsExact.2, ← hop, h, ha]
  · rcases h with h | h | h | h
    all_goals simp [opMapIsExact.2, ← hop, h, ha, hb]
  · simp [opMapIsExact.2, ← hop, h, ha, hb]
  · rcases h with h | h
    all_goals simp [opMapIsExact.2, ← hop, h, ha, hb, hc]
  · simp [opMapIsExact.2, ← hop, h, ha, hb, hc]

/-! ### The decoder inverts the encoder -/

/-- The instruction has an encoding under the profile, and that decodes to it. -/
def DecodesBack (p : Profile) (i : Instr) : Prop :=
  ∃ e, encode p i = some e ∧ decode p e = .ok i

section
variable {p : Profile} {i : Instr}

/-- A word of format `N` is one value; the operands of the other formats are fields (rule R71). -/
theorem decodesBack_of_isPortOperation (h : isPortOperation i = true) : DecodesBack p i := by
  cases i with
  | gavail | aavail | rdg | rda | poll | rxbyte | clrall | refreshg | refresha | refresh | sendsize
  | sendrot | init | getinfo => exact ⟨_, rfl, rfl⟩
  | setall | clrring | setupa | setrot | rdreg | adda | clrgled | clraled | setupg | settilt
  | addg | setgled | setaled | sendtilt => exact ⟨_, rfl, by simp [decode, opMapIsExact.2]⟩
  | _ => cases h

/-! #### Received frames (rules R76, R77, R83) -/

theorem rxKindEntry_mem {k : RxKind} {e : RxEntry} (h : p.rxKindEntry k = some e) :
    e ∈ p.rxTable ∧ e.kind = k := by
  unfold Profile.rxKindEntry at h
  exact ⟨List.mem_of_find?_eq_some h, by simpa using List.find?_some h⟩

/-- A command byte has at most one entry, so the entry of a byte is the one that has it. -/
theorem rxEntry_cmd (hp : p.wf = true) {e : RxEntry} (he : e ∈ p.rxTable) :
    p.rxEntry e.cmd = some e := by
  have hnodup : (p.rxTable.map (·.cmd)).Nodup := by
    simp only [Profile.wf, Bool.and_eq_true, decide_eq_true_eq, and_assoc] at hp
    exact hp.1
  obtain ⟨e', he'⟩ : ∃ e', p.rxEntry e.cmd = some e' :=
    Option.isSome_iff_exists.1 (List.find?_isSome.2 ⟨e, he, beq_self_eq_true _⟩)
  obtain ⟨hmem, hcmd⟩ := rxEntry_mem he'
  rw [he', List.inj_on_of_nodup_map hnodup hmem he hcmd]

/-- A payload of its kind's length, behind the command byte of the kind, is read as that kind. -/
theorem decodesBack_rx {k : RxKind} {payload : List Byte} (hp : p.wf = true)
    (hk : p.hasKind k = true) (hlen : payload.length = p.rxPlen k)
    (henc : encode p i = encodeRx p k payload) (hi : ∀ cmd, rxInstr cmd k payload = .ok i) :
    DecodesBack p i := by
  obtain ⟨e, he⟩ := Option.isSome_iff_exists.1 hk
  obtain ⟨hmem, rfl⟩ := rxKindEntry_mem he
  refine ⟨.rxFrame (e.cmd :: payload), by rw [henc, encodeRx, he]; rfl, ?_⟩
  simp only [decode, decodeRx, rxEntry_cmd hp hmem, hlen, Profile.wf_plen hp hmem, if_true, hi]

/-! #### Sent frames (rules R47, R78) -/

/-- The five command bytes differ, so each stands for its own kind. -/
theorem txKindOf_txEntry (hd : p.txDistinct = true) (k : TxKind) :
    txKindOf p (p.txEntry k).cmd = some k := by
  simp only [Profile.txDistinct, Bool.and_eq_true, decide_eq_true_eq] at hd
  obtain ⟨hnodup, -⟩ := hd
  simp only [List.nodup_cons, List.mem_cons, List.not_mem_nil, or_false, not_or] at hnodup
  cases k <;> grind [txKindOf, Profile.txEntry]

/-- No sent frame begins as the query does. -/
theorem txFrameBytes_ne_querySeq (hd : p.txDistinct = true) (k : TxKind) (payload : List Byte) :
    txFrameBytes p k payload ≠ p.querySeq := by
  intro h
  simp only [Profile.txDistinct, Bool.and_eq_true, ← h] at hd
  cases k <;> simp [txFrameBytes, Profile.txEntry] at hd

/-- A sent frame is read as its kind. -/
theorem decodesBack_tx {k : TxKind} {payload : List Byte} (hd : p.txDistinct = true)
    (henc : encode p i = some (.txFrame (txFrameBytes p k payload)))
    (hi : ∀ cmd, txInstr p cmd k payload = .ok i) : DecodesBack p i := by
  refine ⟨_, henc, ?_⟩
  simp only [decode, decodeTx, if_neg (txFrameBytes_ne_querySeq hd k payload)]
  simp only [txFrameBytes, txKindOf_txEntry hd, hi]

theorem highByte_append_lowByte (v : Half) : v.extractLsb' 8 8 ++ v.extractLsb' 0 8 = v :=
  (BitVec.extractLsb'_append_extractLsb'_eq_extractLsb' rfl).trans BitVec.extractLsb'_eq_self

theorem txInstr_tiltPayload {s : Byte} (hs : s.toNat < ntilt) (x y z : Half) (cmd : Byte) :
    txInstr p cmd .tilt (tiltPayload p s x y z) = .ok (.txTilt s x y z) := by
  cases ho : p.tiltOrder <;>
    simp [tiltPayload, axisBytes, txInstr, axisValue, ho, hs, highByte_append_lowByte]

end

/-- Settles O1: the port operations by their fields, the frames by the entry of their kind. -/
theorem decodeInvertsEncode : Obligations.DecodeInvertsEncode := by
  intro p i hp hd hi
  cases i with
  | rxInfoCaps | rxSize | rxRot | rxKeyup | rxKeydn | rxEnc =>
    exact decodesBack_rx hp hi rfl rfl fun _ => rfl
  | rxInfoId id =>
    obtain ⟨hk, hlen⟩ := Bool.and_eq_true_iff.1 hi
    exact decodesBack_rx hp hk (beq_iff_eq.1 hlen) rfl fun _ => by simp [rxInstr]
  | txSize p0 p1 => exact decodesBack_tx hd rfl fun _ => rfl
  | txRot r => exact decodesBack_tx hd rfl fun _ => if_pos (of_decide_eq_true hi)
  | txGmap xo yo levels =>
    simp only [Instr.wellFormed, Bool.and_eq_true, beq_iff_eq] at hi
    exact decodesBack_tx hd rfl fun _ => by simp [txInstr, hi]
  | txAmap ring levels =>
    simp only [Instr.wellFormed, Bool.and_eq_true, beq_iff_eq, decide_eq_true_eq] at hi
    exact decodesBack_tx hd rfl fun _ => by simp [txInstr, hi]
  | txTilt sensor x y z =>
    exact decodesBack_tx hd rfl (txInstr_tiltPayload (of_decide_eq_true hi) x y z)
  | txQuery => exact ⟨_, rfl, if_pos rfl⟩
  | _ => exact decodesBack_of_isPortOperation rfl

/-! ### Illegal values of `op`, and the wrong port (rules R72, R73) -/

section
variable {s : State} {cw : Command} {rest : List Command}

theorem hostTurn_issue (hj : s.job = .idle) (hc : s.hostProg = cw :: rest) :
    hostTurn s = issue .host cw { s with port := .host, hostProg := rest } := by
  simp only [hostTurn, hostServed, hj, hc]

theorem prodTurn_issue (hc : s.prodProg = cw :: rest) :
    prodTurn s = issue .prod cw { s with port := .prod, prodProg := rest } := by
  simp only [prodTurn, prodServed, hc]

theorem decodeCommand_rxbyte (h : opField cw = 0x21) : decodeCommand cw = .ok .rxbyte := by
  simp [opMapIsExact.2, h]

/-- Of the operations of the map, PROD's port allows no more than three (rules R72, R236). -/
theorem decodeCommand_not_prod (cfg : Params) (h : opField cw ∈ opCodes)
    (hport : opField cw ∉ ([0x10, 0x11, 0x21] : List Byte)) :
    ∃ i, decodeCommand cw = .ok i ∧ portAllows cfg .prod i = false := by
  unfold decodeCommand
  split
  case h_1 | h_2 | h_8 => exact absurd (by simp [*]) hport
  case h_29 => simp_all [opCodes]
  all_goals exact ⟨_, rfl, rfl⟩

end

/-- Settles O7: the word at the head of the agent's program is issued, and answered or refused. -/
theorem stepAnswersIllegalOps : Obligations.StepAnswersIllegalOps := by
  intro s cw rest turns hp
  refine ⟨fun hj hc hs => ?_, fun hc hs => ?_⟩
  · rw [step_host hp hs, hostTurn_issue (s := { s with schedule := turns }) hj hc]
    refine ⟨fun h => issue_illegal (decodeCommand_illegal h), fun h => ?_⟩
    rw [issue_refused (decodeCommand_rxbyte h) rfl, h]
  · rw [step_prod hp hs, prodTurn_issue (s := { s with schedule := turns }) hc]
    refine ⟨fun h => issue_illegal (decodeCommand_illegal h), fun h hport => ?_, fun h ha => ?_⟩
    · obtain ⟨i, hd, hi⟩ := decodeCommand_not_prod s.cfg h hport
      exact issue_refused hd hi
    · rw [issue_refused (decodeCommand_rxbyte h) (by exact ha), h]

end Sys2Proof.Machine
end

section
/-! SUPPORT. One add to an event queue, one read of it and one encoder frame: each is one operation
of the ring buffer, and leaves the rest of the state alone (rules R100 to R105, R108, R109, R125). -/

namespace Sys2Proof.Machine

/-- Of a queue with an event, the front is the oldest and a pop leaves the others (rules R102,
R103). -/
theorem Ring.pop_of_contents_cons {α : Type} {z e : α} {es : List α} {q : Ring α}
    (hh : q.head < qcap) (h : q.contents z = e :: es) :
    q.front z = e ∧ q.pop.contents z = es ∧ q.pop.count + 1 = q.count := by
  have hcount : q.count = es.length + 1 := by rw [← q.contents_length z, h, List.length_cons]
  have hne : q.count ≠ 0 := hcount ▸ Nat.succ_ne_zero _
  rw [Ring.contents_pop hh hne] at h
  obtain ⟨hfront, hrest⟩ := List.cons.inj h
  exact ⟨hfront, hrest, Nat.sub_one_add_one hne⟩

/-- An accepted encoder frame with a place in the queue is one add (rules R101, R125). -/
theorem encFrame_room {s : State} {n d : Byte} (hm : arcMode s = true)
    (hn : n.toNat < s.encoders.toNat) (hc : s.aq.count < qcap) :
    encFrame n d s = { s with aq := s.aq.push ArcEvent.zero ⟨n, d⟩ } := by
  rw [encFrame, if_pos ⟨hm, hn⟩, qAddA, if_neg hc.ne]

/-- Settles O18: either add is one push on its ring buffer. -/
theorem addAppendsEvent : Obligations.AddAppendsEvent :=
  ⟨fun _ x y p hc hw =>
    ⟨_, exec_addg_room ⟨x, y, p⟩ hc, rfl, rfl, rfl, Ring.contents_push _ hw hc⟩,
   fun _ n d hc hw =>
    ⟨_, exec_adda_room ⟨n, d⟩ hc, rfl, rfl, rfl, Ring.contents_push _ hw hc⟩⟩

/-- Settles O20: either read is one pop of its ring buffer, answering the front. -/
theorem readTakesOldestEvent : Obligations.ReadTakesOldestEvent := by
  refine ⟨fun s e es hh hcont => ?_, fun s e es hh hcont => ?_⟩
  · obtain ⟨rfl, hrest, hcount⟩ := Ring.pop_of_contents_cons hh hcont
    exact ⟨_, exec_rdg_front hh (by omega), rfl, rfl, hcount, rfl, hrest⟩
  · obtain ⟨rfl, hrest, hcount⟩ := Ring.pop_of_contents_cons hh hcont
    exact ⟨_, exec_rda_front hh (by omega), rfl, rfl, hcount, rfl, hrest⟩

/-- Settles O32: an accepted encoder frame is one push on the ring buffer of the arc queue. -/
theorem encoderFrameEnqueuesEvent : Obligations.EncoderFrameEnqueuesEvent := by
  intro s n d hm hn hc hw
  exact ⟨_, congrArg Host.Outcome.next (encFrame_room hm hn hc), rfl, rfl,
    Ring.contents_push _ hw hc⟩

end Sys2Proof.Machine
end

section
/-! SUPPORT. The decode path (rules R120 to R132): the framer's reaction to a byte, said once per
situation, what a byte leaves alone, POLL and RXBYTE over it, and the frames that pass or fail their
acceptance tests. -/

namespace Sys2Proof.Machine

/-! ### The framer's situations (rules R122, R130, R131) -/

section
variable {s : State} {b : Byte} {e : RxEntry}

theorem rxStep_unknown (hi : s.rx.state = .idle) (he : s.cfg.profile.rxEntry b = none) :
    rxStep b s = .next (label (.protoUnknown b) s) := by
  simp only [rxStep, hi, rxStart, he]

theorem rxStep_empty (hi : s.rx.state = .idle) (he : s.cfg.profile.rxEntry b = some e)
    (hz : e.plen = 0) : rxStep b s = dispatchFrame e.kind [] s := by
  simp only [rxStep, hi, rxStart, he, if_pos hz]

theorem rxStep_opens (hi : s.rx.state = .idle) (he : s.cfg.profile.rxEntry b = some e)
    (hz : e.plen ≠ 0) :
    rxStep b s =
      .next { s with
        rx := { s.rx with state := .collect, cmd := b, need := e.plen, cnt := 0 } } := by
  simp only [rxStep, hi, rxStart, he, if_neg hz]

theorem rxStep_collects (hc : s.rx.state = .collect) (hmore : s.rx.cnt + 1 < s.rx.need)
    (hfit : s.rx.need ≤ s.cfg.profile.maxPlen) : rxStep b s = .next (storePayload b s) := by
  have hcell : s.rx.cnt < s.cfg.profile.maxPlen := by omega
  simp only [rxStep, hc, rxCollect, if_pos hcell, storePayload_rx, if_neg hmore.ne]

/-- The last byte of a frame: the bytes collected, with it, are dispatched. -/
theorem rxStep_completes (hc : s.rx.state = .collect) (hlast : s.rx.cnt + 1 = s.rx.need)
    (hfit : s.rx.need ≤ s.cfg.profile.maxPlen) (he : s.cfg.profile.rxEntry s.rx.cmd = some e)
    (hw : Memory.wf 0 s.cfg.profile.maxPlen s.rx.buf = true) :
    rxStep b s =
      andThen (dispatchFrame e.kind (Memory.readList 0 s.rx.buf 0 s.rx.cnt ++ [b])
        (storePayload b s)) fun t => .next (framerIdle t) := by
  have hcell : s.rx.cnt < s.cfg.profile.maxPlen := by omega
  simp only [rxStep, hc, rxCollect, if_pos hcell, storePayload_rx, rxComplete,
    storePayload_cfg, he, ← hlast, if_true, Memory.readList_write_succ hw]

end

/-- Settles O29: the framer's situations one by one. -/
theorem framerFollowsByteRule : Obligations.FramerFollowsByteRule := fun s _ =>
  ⟨fun n p => dispatchFrame_skip n p s, rxStep_unknown, fun _ => rxStep_empty,
    fun _ => rxStep_opens, rxStep_collects, fun _ => rxStep_completes⟩

/-! ### The framer under the invariant (rule R132) -/

section
variable {s : State} {b : Byte}

/-- A byte keeps the invariant: what it does is a chain of updates. -/
theorem State.Inv.rxStep {t : State} (h : s.Inv) (ht : rxStep b s = .next t) : t.Inv :=
  (Updates.refl.rxStep b t ht).inv h

/-- The frame being collected fits the buffer (rule R13). -/
theorem State.Inv.need_le (h : s.Inv) (hc : s.rx.state = .collect) :
    s.rx.cnt < s.rx.need ∧ s.rx.need ≤ s.cfg.profile.maxPlen := by
  obtain ⟨e, he, hneed, hcnt⟩ := h.framer hc
  exact ⟨hcnt, hneed ▸ plen_le_maxPlen (rxEntry_mem he).1⟩

/-- The last byte of a frame is dispatched without a stop, and leaves the framer idle. -/
theorem State.Inv.rxStep_last (h : s.Inv) (hc : s.rx.state = .collect)
    (hlast : s.rx.cnt + 1 = s.rx.need) : ∃ u, Machine.rxStep b s = .next (Machine.framerIdle u) := by
  obtain ⟨e, he, hneed, -⟩ := h.framer hc
  obtain ⟨-, -, -, hw, -, -⟩ := h.memory
  obtain ⟨u, hu⟩ : ∃ u, dispatchFrame e.kind (Memory.readList 0 s.rx.buf 0 s.rx.cnt ++ [b])
      (storePayload b s) = .next u :=
    dispatchFrame_next (by simp [hlast, hneed, h.entry_plen he])
  exact ⟨u, by rw [rxStep_completes hc hlast (h.need_le hc).2 he hw, hu, andThen_next]⟩

/-- No byte stops the framer. -/
theorem State.Inv.rxStep_next (h : s.Inv) (b : Byte) : ∃ t, Machine.rxStep b s = .next t := by
  cases hstate : s.rx.state with
  | idle =>
    cases he : s.cfg.profile.rxEntry b with
    | none => exact ⟨_, rxStep_unknown hstate he⟩
    | some e =>
      by_cases hz : e.plen = 0
      · rw [rxStep_empty hstate he hz]
        exact dispatchFrame_next (by simp [← h.entry_plen he, hz])
      · exact ⟨_, rxStep_opens hstate he hz⟩
  | collect =>
    obtain ⟨hcnt, hfit⟩ := h.need_le hstate
    rcases Nat.lt_or_eq_of_le hcnt with hmore | hlast
    · exact ⟨_, rxStep_collects hstate hmore hfit⟩
    · obtain ⟨u, hu⟩ := h.rxStep_last hstate hlast
      exact ⟨_, hu⟩

/-- The bytes still missing bring the framer back to `IDLE`, whatever they are. -/
theorem feed_missing_idle {bs : List Byte} (h : s.Inv) (hc : s.rx.state = .collect)
    (hlen : bs.length = s.rx.need - s.rx.cnt) : ∃ t, feed bs s = .next t ∧ t.rx.state = .idle := by
  obtain ⟨hcnt, hfit⟩ := h.need_le hc
  induction bs generalizing s with
  | nil => simp only [List.length_nil] at hlen; omega
  | cons b bs ih =>
    simp only [List.length_cons] at hlen
    rw [feed]
    rcases Nat.lt_or_eq_of_le hcnt with hmore | hlast
    · have hstored := rxStep_collects (b := b) hc hmore hfit
      rw [hstored, andThen_next]
      exact ih (h.rxStep hstored) hc (by simp only [storePayload_rx]; omega) hmore hfit
    · obtain rfl : bs = [] := List.eq_nil_of_length_eq_zero (by omega)
      obtain ⟨u, hu⟩ := h.rxStep_last (b := b) hc hlast
      exact ⟨framerIdle u, by rw [hu, andThen_next, feed], rfl⟩

end

/-- Settles O30: each byte but the last is stored, and the last one completes the frame. -/
theorem framerResynchronises : Obligations.FramerResynchronises := by
  intro s bs h hc hlen
  obtain ⟨-, hfit⟩ := h.need_le hc
  exact ⟨by omega, feed_missing_idle h hc hlen⟩

/-! ### What a byte leaves alone -/

/-- From `s` to `t` the streams, LedFrame and the schedule stand, and the receiver was not disabled.
-/
structure DecodeKeeps (s t : State) : Prop where
  rxs : t.rxs = s.rxs
  txs : t.txs = s.txs
  led : t.led = s.led
  schedule : t.schedule = s.schedule
  receiver : rxEn s = true → rxEn t = true

theorem DecodeKeeps.trans {s t u : State} (h : DecodeKeeps s t) (h' : DecodeKeeps t u) :
    DecodeKeeps s u :=
  ⟨h'.rxs.trans h.rxs, h'.txs.trans h.txs, h'.led.trans h.led, h'.schedule.trans h.schedule,
    h'.receiver ∘ h.receiver⟩

theorem qAddG_keeps (e : GridEvent) (s : State) : DecodeKeeps s (qAddG e s) := by
  unfold qAddG
  split <;> exact ⟨rfl, rfl, rfl, rfl, id⟩

theorem qAddA_keeps (e : ArcEvent) (s : State) : DecodeKeeps s (qAddA e s) := by
  unfold qAddA
  split <;> exact ⟨rfl, rfl, rfl, rfl, id⟩

theorem malformed_keeps (s : State) : DecodeKeeps s (malformed s) := ⟨rfl, rfl, rfl, rfl, id⟩

theorem keyFrame_keeps (v : Bool) (xp yp : Byte) (s : State) :
    DecodeKeeps s (keyFrame v xp yp s) := by
  unfold keyFrame
  split
  · exact qAddG_keeps _ s
  · exact malformed_keeps s

theorem encFrame_keeps (n d : Byte) (s : State) : DecodeKeeps s (encFrame n d s) := by
  unfold encFrame
  split
  · exact qAddA_keeps _ s
  · exact malformed_keeps s

theorem infoCapsFrame_keeps (c0 c1 : Byte) (s : State) :
    DecodeKeeps s (infoCapsFrame c0 c1 s) := by
  dsimp only [infoCapsFrame]
  split
  · exact ⟨rfl, rfl, rfl, rfl, fun _ => rfl⟩
  · exact malformed_keeps s

theorem sizeFrame_keeps (s0 s1 : Byte) (s : State) : DecodeKeeps s (sizeFrame s0 s1 s) := by
  unfold sizeFrame
  split_ifs <;> exact ⟨rfl, rfl, rfl, rfl, id⟩

theorem rotFrame_keeps (r : Byte) (s : State) : DecodeKeeps s (rotFrame r s) := by
  unfold rotFrame
  split <;> exact ⟨rfl, rfl, rfl, rfl, id⟩

theorem dispatchFrame_keeps (k : RxKind) (pl : List Byte) (s : State) :
    Leads (DecodeKeeps s) (dispatchFrame k pl s) := by
  intro t h
  rcases dispatchFrame_cases h with ⟨v, xp, yp, -, -, rfl⟩ | ⟨n, d, -, -, rfl⟩ |
    ⟨c0, c1, -, -, rfl⟩ | ⟨-, -, rfl⟩ | ⟨s0, s1, -, -, rfl⟩ | ⟨r, -, -, rfl⟩ | ⟨n, -, rfl⟩
  · exact keyFrame_keeps v xp yp s
  · exact encFrame_keeps n d s
  · exact infoCapsFrame_keeps c0 c1 s
  · exact ⟨rfl, rfl, rfl, rfl, fun _ => rfl⟩
  · exact sizeFrame_keeps s0 s1 s
  · exact rotFrame_keeps r s
  · exact ⟨rfl, rfl, rfl, rfl, id⟩

theorem rxStart_keeps (b : Byte) (s : State) : Leads (DecodeKeeps s) (rxStart b s) := by
  intro t h
  rcases rxStart_cases h with ⟨-, rfl⟩ | ⟨e, -, -, hd⟩ | ⟨e, -, -, rfl⟩
  · exact ⟨rfl, rfl, rfl, rfl, id⟩
  · exact dispatchFrame_keeps _ _ s t hd
  · exact ⟨rfl, rfl, rfl, rfl, id⟩

theorem rxCollect_keeps (b : Byte) (s : State) : Leads (DecodeKeeps s) (rxCollect b s) := by
  intro t h
  have hstored : DecodeKeeps s (storePayload b s) := ⟨rfl, rfl, rfl, rfl, id⟩
  obtain ⟨-, ⟨-, rfl⟩ | ⟨-, e, u, -, hd, rfl⟩⟩ := rxCollect_cases h
  · exact hstored
  · exact (hstored.trans (dispatchFrame_keeps _ _ _ u hd)).trans ⟨rfl, rfl, rfl, rfl, id⟩

theorem rxStep_keeps (b : Byte) (s : State) : Leads (DecodeKeeps s) (rxStep b s) := by
  unfold rxStep
  split
  · exact rxStart_keeps b s
  · exact rxCollect_keeps b s

/-! ### RXBYTE (rule R120) -/

/-- Settles O28: under the invariant the byte taken stops nothing and the framer takes no other. -/
theorem rxbyteTakesOneByte : Obligations.RxbyteTakesOneByte := by
  intro s h
  refine ⟨fun hen b rest hr => ?_, fun hen hr => ?_, fun hen => ?_⟩
  · have htaken : State.Inv { s with rxs := rest } := h.withAgents
    obtain ⟨t, ht⟩ := htaken.rxStep_next b
    refine ⟨t, ht, (rxStep_keeps b _ t ht).rxs, ?_⟩
    simp only [exec, execRxbyte, hen, hr, ht, andThen_next]
    rfl
  · simp only [exec, execRxbyte, hen, hr]
    rfl
  · simp only [exec, execRxbyte, hen]
    rfl

/-! ### The turns of POLL (rule R121) -/

section
variable {s : State} {k n : Nat}

/-- POLL's gate (rule R27). -/
theorem exec_poll_enabled (h : rxEn s = true) :
    exec .poll s = .next { s with job := .poll s.rxs.length 0 } := by
  simp [exec, execPoll, h]

theorem exec_poll_disabled (h : rxEn s = false) : exec .poll s = .next (raise .inactive s) := by
  simp [exec, execPoll, h]

theorem hostTurn_poll (hj : s.job = .poll k n) :
    hostTurn s = pollTurn k n { s with port := .host } := by
  rw [hostTurn_job (by simp [hj]), jobTurn, hj]

/-- A turn whose loop test holds gives the oldest byte to the framer. -/
theorem pollTurn_takes {b : Byte} {rest : List Byte} (hn : n < k) (hen : rxEn s = true)
    (hr : s.rxs = b :: rest) :
    pollTurn k n s =
      andThen (rxStep b { s with rxs := rest }) fun t => .next { t with job := .poll k (n + 1) } := by
  simp only [pollTurn, hr, if_pos (And.intro hn hen)]

/-- A turn whose loop test fails answers whether the POLL took a byte. -/
theorem pollTurn_ends (hend : s.rxs = [] ∨ k ≤ n ∨ rxEn s = false) :
    pollTurn k n s = .next (done { s with job := .idle } 0 0 (bitByte (n != 0))) := by
  unfold pollTurn
  split
  · rfl
  · next b rest hr =>
    refine if_neg fun ⟨hlt, hen⟩ => ?_
    rcases hend with hempty | hused | hoff
    · rw [hempty] at hr
      cases hr
    · omega
    · rw [hoff] at hen
      cases hen

/-- The state in which HOST's POLL has answered. -/
def pollAnswered (n : Nat) (s : State) : State :=
  { s with
    port := .host, job := .idle, hostResp := some ⟨0, 0, 0, if n = 0 then 0 else 1⟩ }

theorem done_pollAnswered (n : Nat) (s : State) :
    done { s with port := .host, job := .idle } 0 0 (bitByte (n != 0)) = pollAnswered n s := by
  by_cases hz : n = 0 <;> simp [done, respond, pollAnswered, bitByte, hz]

theorem hostTurn_pollEnds (hj : s.job = .poll k n)
    (hend : s.rxs = [] ∨ k ≤ n ∨ rxEn s = false) :
    hostTurn s = .next (pollAnswered n s) := by
  rw [hostTurn_poll hj, pollTurn_ends (by exact hend), ← done_pollAnswered]

end

/-- Settles O26: POLL's gate, past which it takes the snapshot. -/
theorem pollTakesSnapshot : Obligations.PollTakesSnapshot := fun s =>
  ⟨fun h => exec_poll_enabled (by simpa [rxEn] using h),
    fun ha hp => exec_poll_disabled (by simp [rxEn, ha, hp])⟩

/-! ### A whole POLL (rule R121) -/

/-- A run whose first step goes on is the run from there. -/
theorem run_succ {s t : State} (h : step s = .next t) (m : Nat) :
    Host.Core.run core (m + 1) s = Host.Core.run core m t := by
  simp only [Host.Core.run, show core.step s = .next t from h]

/-- With the bytes of the snapshot still on the stream and nothing interleaved, POLL takes them and
answers. -/
theorem run_poll {s : State} {bs : List Byte} {n : Nat} (h : s.Inv) (hs : s.schedule = [])
    (hr : s.rxs = bs) (hj : s.job = .poll (n + bs.length) n) (hen : rxEn s = true) :
    ∃ t, Host.Core.run core (bs.length + 1) s = .next t
      ∧ t.rxs = [] ∧ t.job = .idle ∧ t.txs = s.txs ∧ t.led = s.led
      ∧ t.hostResp = some ⟨0, 0, 0, if n + bs.length = 0 then 0 else 1⟩ := by
  induction bs generalizing s n with
  | nil =>
    have hlast : step s = .next (pollAnswered n s) := by
      rw [step_schedule_nil h.profile hs]
      exact hostTurn_pollEnds hj (.inl hr)
    exact ⟨_, run_succ hlast 0, hr, rfl, rfl, rfl, rfl⟩
  | cons b bs ih =>
    simp only [List.length_cons] at hj ⊢
    have hserved : State.Inv { s with port := .host, rxs := bs } := h.withAgents
    obtain ⟨u, hu⟩ := hserved.rxStep_next b
    obtain ⟨hrxs, htxs, hled, hsched, hrec⟩ := rxStep_keeps b _ u hu
    have hstep : step s = .next { u with job := .poll (n + (bs.length + 1)) (n + 1) } := by
      rw [step_schedule_nil h.profile hs, hostTurn_poll hj,
        pollTurn_takes (by omega) (by exact hen) (by exact hr), hu, andThen_next]
    obtain ⟨t, hrun, htr, htj, htt, htl, hresp⟩ :=
      ih (n := n + 1) (stepKeepsInvariant _ _ h hstep) (hsched.trans hs) hrxs
        (by simp only [Nat.add_assoc, Nat.add_comm 1]) (hrec hen)
    refine ⟨t, (run_succ hstep _).trans hrun, htr, htj, htt.trans htxs, htl.trans hled, ?_⟩
    rw [hresp, Nat.add_assoc, Nat.add_comm 1]

/-- Settles O27: POLL's first step takes the snapshot, and its turns take the bytes; a turn whose
loop test fails answers. -/
theorem pollConsumesWhatWasAvailable : Obligations.PollConsumesWhatWasAvailable := by
  refine ⟨fun s h hs hc hj hen => ?_, fun s k n hp hj hend => ⟨fun hs => ?_, fun turns hs => ?_⟩⟩
  · have hstep : step s =
        .next { s with port := .host, hostProg := [], job := .poll s.rxs.length 0 } := by
      rw [step_schedule_nil h.profile hs, hostTurn_exec (i := .poll) hj hc (by decide) rfl]
      exact exec_poll_enabled (by exact hen)
    obtain ⟨t, hrun, hend⟩ :=
      run_poll (n := 0) (stepKeepsInvariant _ _ h hstep) hs rfl (by simp) hen
    rw [Nat.zero_add] at hend
    exact ⟨t, (run_succ hstep _).trans hrun, hend⟩
  · rw [step_schedule_nil hp hs]
    exact hostTurn_pollEnds hj hend
  · rw [step_host hp hs]
    exact hostTurn_pollEnds (s := { s with schedule := turns }) hj hend

/-! ### A received frame as an instruction (rules R121 to R123; log entry 9) -/

theorem andThen_assoc (o : Result) (f g : State → Result) :
    andThen (andThen o f) g = andThen o fun t => andThen (f t) g := by
  cases o <;> rfl

/-- Dispatching a payload is running the instruction the frame decodes to. -/
theorem dispatchFrame_of_rxInstr {cmd : Byte} {k : RxKind} {payload : List Byte} {i : Instr}
    (h : rxInstr cmd k payload = .ok i) (s : State) : dispatchFrame k payload s = exec i s := by
  unfold rxInstr at h
  split at h
  case h_5 => cases h; exact dispatchFrame_infoId _ s
  all_goals cases h
  all_goals rfl

theorem decodeRx_ok {p : Profile} {cmd : Byte} {payload : List Byte} {i : Instr}
    (h : decodeRx p (cmd :: payload) = .ok i) :
    ∃ e, p.rxEntry cmd = some e ∧ payload.length = e.plen ∧ rxInstr cmd e.kind payload = .ok i := by
  simp only [decodeRx] at h
  split at h
  · cases h
  · split at h
    · exact ⟨_, ‹_›, ‹_›, h⟩
    · cases h

/-- Settles O8: the turn's byte completes the frame, whose dispatch is its instruction. -/
theorem stepRunsReceivedFrame : Obligations.StepRunsReceivedFrame := by
  intro s b rest turns k n i hp hw hs hj hn hen hr hc hlast hd
  obtain ⟨e, he, hlen, hi⟩ := decodeRx_ok hd
  have hfit : s.rx.need ≤ s.cfg.profile.maxPlen := by
    have hneed : s.rx.need = e.plen := by rw [← hlast, ← hlen]; simp
    exact hneed ▸ plen_le_maxPlen (rxEntry_mem he).1
  have hbyte := rxStep_completes (s := { s with port := .host, schedule := turns, rxs := rest })
    (b := b) hc hlast hfit he hw
  rw [step_host hp hs, hostTurn_poll (s := { s with schedule := turns }) hj,
    pollTurn_takes hn (by exact hen) (by exact hr)]
  simp only [hbyte, andThen_assoc, andThen_next, dispatchFrame_of_rxInstr hi]

/-! ### Frames by their acceptance tests (rules R123 to R129, R222) -/

/-- A list written from cell 0 on is what the cells hold, in order. -/
theorem Memory.read_writeList_start {α : Type} [DecidableEq α] {z : α} {n k : Nat} {m : Memory α}
    {vs : List α} (hm : Memory.wf z n m = true) (hfit : vs.length ≤ n) (hk : k < vs.length) :
    some (Memory.read z (Memory.writeList z m 0 vs) k) = vs[k]? := by
  rw [Memory.read_writeList hm ((Nat.zero_add _).trans_le hfit), if_pos (Nat.zero_le k),
    Nat.sub_zero, List.getElem?_eq_getElem hk, Option.getD_some]

/-- Settles O33: `InfoSuccess`, after the dimensions or the identifier are stored. -/
theorem infoFramesActivate : Obligations.InfoFramesActivate := by
  refine ⟨fun s c0 c1 r c e hcaps hok => ?_, fun s id hlen hw => ?_⟩
  · simp only [exec, execRxInfoCaps, infoCapsFrame, hcaps, hok, if_true]
    rfl
  · exact ⟨_, if_pos hlen, rfl, fun k hk => Memory.read_writeList_start hw hlen.le (hlen ▸ hk)⟩

/-- Settles O34: the branch of the frame's test. -/
theorem sizeAndRotationFramesSetRegisters : Obligations.SizeAndRotationFramesSetRegisters := by
  refine ⟨fun s s0 s1 hm h1 h4 => ?_, fun s s0 s1 hm h0 h1 harea => ?_, fun s r hr => ?_⟩
  · simp only [exec, execRxSize, sizeFrame, hm, if_true, if_pos (And.intro h1 h4)]
  · simp only [exec, execRxSize, sizeFrame, hm, Bool.false_eq_true, if_false,
      if_pos (And.intro h0 (And.intro h1 harea))]
  · refine ⟨{ s with rotation := r.setWidth 2 }, congrArg _ (if_pos hr), rfl, ?_⟩
    rw [BitVec.toNat_setWidth]
    omega

section
variable {s : State} {a b : Byte}

theorem keyFrame_malformed (v : Bool)
    (h : gridMode s = false ∨ s.columns.toNat ≤ a.toNat ∨ s.rows.toNat ≤ b.toNat) :
    keyFrame v a b s = malformed s := by
  refine if_neg fun ⟨hm, hx, hy⟩ => ?_
  rcases h with h | h | h
  · simp [h] at hm
  · omega
  · omega

theorem encFrame_malformed (h : arcMode s = false ∨ s.encoders.toNat ≤ a.toNat) :
    encFrame a b s = malformed s := by
  refine if_neg fun ⟨hm, hn⟩ => ?_
  rcases h with h | h
  · simp [h] at hm
  · omega

theorem sizeFrame_malformed
    (h : arcMode s = true ∧ (a.toNat = 0 ∨ 4 < a.toNat) ∨
      arcMode s = false ∧ (a.toNat = 0 ∨ b.toNat = 0 ∨ 256 < a.toNat * b.toNat)) :
    sizeFrame a b s = malformed s := by
  rcases h with ⟨hm, hbad⟩ | ⟨hm, hbad⟩
  · rw [sizeFrame, if_pos hm, if_neg (by simp only [arcRings]; omega)]
  · rw [sizeFrame, if_neg (by simp [hm]), if_neg (by simp only [ledn]; omega)]

theorem rotFrame_malformed (h : 3 < a.toNat) : rotFrame a s = malformed s :=
  if_neg (Nat.not_le.2 h)

theorem infoCapsFrame_malformed {r c e : Byte}
    (hcaps : capsApply s.cfg.profile a b s.rows s.columns s.encoders = (r, c, e))
    (hbad : dimsOk s r c e = false) : infoCapsFrame a b s = malformed s := by
  simp only [infoCapsFrame, hcaps, hbad, Bool.false_eq_true, if_false]

end

/-- Settles O35: a frame that fails its test is labelled as malformed, and no more. -/
theorem malformedFramesChangeNothing : Obligations.MalformedFramesChangeNothing := fun _ _ _ =>
  ⟨fun h => ⟨congrArg _ (keyFrame_malformed true h), congrArg _ (keyFrame_malformed false h)⟩,
    fun h => congrArg _ (encFrame_malformed h), fun h => congrArg _ (sizeFrame_malformed h),
    fun h => congrArg _ (rotFrame_malformed h),
    fun _ _ _ hcaps hbad => congrArg _ (infoCapsFrame_malformed hcaps hbad)⟩

end Sys2Proof.Machine
end

section
/-! SUPPORT. The LedFrame mutators of more than one cell (rules R156 to R158), and the mutators' tests,
mode first (rule R151). -/

namespace Sys2Proof.Machine

section
variable {s : State}

/-! ### The accepted calls -/

/-- SETALL and CLRALL give every cell of LedFrame the level and mark the region of the mode. -/
theorem setAllLeds_accepted (v : Byte) (hc : s.configured = true)
    (hw : Memory.wf 0 ledn s.led = true) :
    ∃ m : Memory Byte,
      setAllLeds v s
        = .next (respond { s with
            led := m
            gridDirty := if s.isGrid then true else s.gridDirty
            arcDirty := if s.isGrid then s.arcDirty else true } ⟨0, 0, 0, 0⟩)
      ∧ ∀ i, i < ledn → Memory.read 0 m i = v := by
  refine ⟨Memory.fill 0 s.led 0 ledn v, ?_, fun i hi => ?_⟩
  · cases hg : s.isGrid <;> simp [setAllLeds, hc, hg, done]
  · rw [Memory.read_fill hw (by simp), if_pos ⟨Nat.zero_le i, by simpa using hi⟩]

/-- CLRRING clears the cells of its ring and no other, and marks the arc region. -/
theorem execClrring_accepted {n : Byte} (hm : arcMode s = true)
    (hn : n.toNat < s.encoders.toNat) (he : s.encoders.toNat ≤ arcRings)
    (hw : Memory.wf 0 ledn s.led = true) :
    ∃ m : Memory Byte,
      execClrring n s = .next (done { s with led := m, arcDirty := true } 0 0 0)
      ∧ ∀ i, Memory.read 0 m i =
          if 64 * n.toNat ≤ i ∧ i < 64 * n.toNat + 64 then 0 else ledRead s i := by
  have hring : ledIndexArc n.toNat ringLeds ≤ ledn := ledIndexArc_ring_le (hn.trans_le he)
  refine ⟨Memory.fill 0 s.led (ledIndexArc n.toNat 0) ringLeds 0, ?_, fun i => ?_⟩
  · simp [execClrring, hm, hn, hring]
  · exact Memory.read_fill hw hring

/-! ### The tests of mode and range -/

theorem setGridLed_wrongMode (x y v : Byte) (hm : gridMode s = false) :
    setGridLed x y v s = .next (raise .modeError s) := by
  simp [setGridLed, hm]

theorem setGridLed_outOfRange {x y : Byte} (v : Byte) (hm : gridMode s = true)
    (hr : inLogicalRect s x y = false) : setGridLed x y v s = .next (raise .rangeError s) := by
  simp [setGridLed, hm, hr]

theorem setArcLed_wrongMode (n l v : Byte) (hm : arcMode s = false) :
    setArcLed n l v s = .next (raise .modeError s) := by
  simp [setArcLed, hm]

theorem setArcLed_outOfRange {n l : Byte} (v : Byte) (hm : arcMode s = true)
    (hr : s.encoders.toNat ≤ n.toNat ∨ ringLeds ≤ l.toNat) :
    setArcLed n l v s = .next (raise .rangeError s) := by
  have hout : n.toNat < s.encoders.toNat → ringLeds ≤ l.toNat := by omega
  simpa [setArcLed, hm] using fun hn hl => absurd (hout hn) (Nat.not_le.2 hl)

theorem execClrring_wrongMode (n : Byte) (hm : arcMode s = false) :
    execClrring n s = .next (raise .modeError s) := by
  simp [execClrring, hm]

theorem execClrring_outOfRange {n : Byte} (hm : arcMode s = true)
    (hn : s.encoders.toNat ≤ n.toNat) : execClrring n s = .next (raise .rangeError s) := by
  simp [execClrring, hm, hn]

theorem setAllLeds_wrongMode (v : Byte) (hc : s.configured = false) :
    setAllLeds v s = .next (raise .modeError s) := by
  simp [setAllLeds, hc]

end

/-! ### The statements -/

/-- Settles O40: each call is one fill of LedFrame, of all its cells or of one ring's. -/
theorem bulkMutatorsWriteTheirCells : Obligations.BulkMutatorsWriteTheirCells := by
  intro s hw
  refine ⟨fun v hc => ?_, fun n hm hn he => ?_⟩
  · obtain ⟨_, hset, hcells⟩ := setAllLeds_accepted v hc hw
    obtain ⟨_, hclear, hzeros⟩ := setAllLeds_accepted 0 hc hw
    exact ⟨⟨_, hset, rfl, hcells⟩, ⟨_, hclear, rfl, hzeros⟩⟩
  · obtain ⟨_, hclear, hcells⟩ := execClrring_accepted hm hn he hw
    exact ⟨_, hclear, rfl, hcells⟩

/-- Settles O41: each call by the test it fails. -/
theorem rejectedMutatorsChangeNothing : Obligations.RejectedMutatorsChangeNothing := fun _ a b c =>
  ⟨fun hm => ⟨setGridLed_wrongMode a b c hm, setGridLed_wrongMode a b 0 hm⟩,
    fun hm hr => ⟨setGridLed_outOfRange c hm hr, setGridLed_outOfRange 0 hm hr⟩,
    fun hm => ⟨setArcLed_wrongMode a b c hm, setArcLed_wrongMode a b 0 hm,
      execClrring_wrongMode a hm⟩,
    fun hm hr => ⟨setArcLed_outOfRange c hm hr, setArcLed_outOfRange 0 hm hr⟩,
    execClrring_outOfRange,
    fun hc => ⟨setAllLeds_wrongMode a hc, setAllLeds_wrongMode 0 hc⟩⟩

end Sys2Proof.Machine
end

section
/-! SUPPORT. The operations that transmit, where they send nothing or all of one frame (rules R161 to
R163, R165, R192, R211, R232). -/

namespace Sys2Proof.Machine

/-- Settles O45: past `active`, each refresh tests its dirty flags. -/
theorem cleanRefreshSendsNothing : Obligations.CleanRefreshSendsNothing := by
  intro s ha
  refine ⟨fun hg => ?_, fun hr => ?_, fun hg hr => ?_⟩
  · simp [exec, execRefreshg, ha, hg, done]
  · simp [exec, execRefresha, ha, hr, done]
  · simp [exec, execRefresh, ha, hg, hr, done]

/-- Settles O47: each operation past its gates is one emission, which ENV takes. -/
theorem sendersEmitTheirBytes : Obligations.SendersEmitTheirBytes := by
  intro s hok
  refine ⟨fun ha hm => ?_, fun ha hm => ?_, fun ha => ?_, ?_⟩
  · rw [exec_sendsize_emits (gridMode_iff.1 hm).1 ha, emitThen_ok hok, txEmit_ok hok,
      sizePayload_grid hm, done]
  · rw [exec_sendsize_emits (arcMode_iff.1 hm).1 ha, emitThen_ok hok, txEmit_ok hok,
      sizePayload_arc hm, done]
  · rw [exec_sendrot_emits ha, emitThen_ok hok, txEmit_ok hok, done]
  · rw [exec, execGetinfo, emitThen_ok hok, txEmit_ok hok, done]

/-- Settles O50: the mode and the sensor number are tested before `active`. -/
theorem firstConditionIsReported : Obligations.FirstConditionIsReported := by
  intro s
  refine ⟨fun hc => ?_, fun n x y z hn => ?_⟩
  · simp only [exec, execSendsize, hc]
    rfl
  · simp only [exec, execSendtilt, if_pos hn]
    rfl

end Sys2Proof.Machine
end

section
/-! SUPPORT. Refreshes frame by frame (rules R52, R159 to R161): the frame a turn sends, and a whole
refresh that nothing interleaves, as a loop of turns that send one frame each. -/

namespace Sys2Proof.Machine

/-! ### The frame a turn sends (rule R150) -/

section
variable {s : State} {bs : List Byte}

/-- What an emission inside an operation leaves on the stream, whatever ENV answers, where the
operation does not touch the stream after it: the same as outside one (`emitOnly_txs`). -/
theorem emitThen_txs {go : State → State} (hgo : ∀ u, (go u).txs = u.txs) (sent : Bool) :
    (emitThen sent bs s go).txs = s.txs ++ bytesSent (nextOutcome s) bs := by
  rcases emitThen_cases sent bs s go with ⟨-, he⟩ | ⟨-, he⟩
  · rw [he, hgo, txEmit_txs]
  · rw [he, raiseWith_txs, txEmit_txs]

theorem emitThen_led {go : State → State} (hgo : ∀ u, (go u).led = u.led) (sent : Bool) :
    (emitThen sent bs s go).led = s.led := by
  rcases emitThen_cases sent bs s go with ⟨-, he⟩ | ⟨-, he⟩
  · rw [he, hgo, txEmit_led]
  · rw [he, raiseWith_led, txEmit_led]

@[simp] theorem gridDone_txs (thenArc : Bool) : (gridDone thenArc s).txs = s.txs := by
  unfold gridDone; split <;> rfl

@[simp] theorem gridDone_led (thenArc : Bool) : (gridDone thenArc s).led = s.led := by
  unfold gridDone; split <;> rfl

@[simp] theorem arcDone_txs : (arcDone s).txs = s.txs := rfl

@[simp] theorem arcDone_led : (arcDone s).led = s.led := rfl

end

/-- Settles O9: HOST's turn is the emission of the frame, inside the refresh. -/
theorem stepSendsRefreshFrame : Obligations.StepSendsRefreshFrame := by
  intro s hs hsched
  have hjob := hs.job
  refine ⟨fun w h quad thenArc hj => ?_, fun rings ring hj => ?_⟩
  · simp only [State.jobOk, hj] at hjob
    obtain ⟨harea, hquad⟩ := hjob
    refine ⟨_, _, (step_gridFrames hs hsched hj).trans (gridTurn_frame harea hquad _ _), rfl,
      (emitThen_txs (fun u => ?_) _).trans (emitOnly_txs _ s).symm,
      emitThen_led (fun u => ?_) _⟩
    all_goals split <;> simp
  · simp only [State.jobOk, hj] at hjob
    obtain ⟨hrings, hring⟩ := hjob
    refine ⟨_, _, (step_arcFrames hs hsched hj).trans (arcTurn_frame hrings hring _), rfl,
      (emitThen_txs (fun u => ?_) _).trans (emitOnly_txs _ s).symm,
      emitThen_led (fun u => ?_) _⟩
    all_goals split <;> simp

/-! ### A refresh as a loop of frames

What REFRESHG and REFRESHA have in common: how many frames there are, what each one's bytes are, the
job in which a frame is next, and what ends the loop. -/

/-- The loop of a refresh (rules R159, R160). -/
structure RefreshLoop where
  frames : Nat
  frame : Nat → List Byte
  job : Nat → Job
  finish : State → State
  /-- The end of the loop sets the job, whatever it was. -/
  finish_job : ∀ t j, finish { t with job := j } = finish t

/-- The bytes of the first `k` frames. -/
def RefreshLoop.image (L : RefreshLoop) (k : Nat) : List Byte := (List.range k).flatMap L.frame

/-- What follows frame `k` in its step. -/
def RefreshLoop.goOn (L : RefreshLoop) (k : Nat) (t : State) : State :=
  if k + 1 < L.frames then { t with job := L.job (k + 1) } else L.finish t

/-- HOST has issued its one command word in `s`, and ENV has taken the first `k` frames. -/
def RefreshLoop.sent (L : RefreshLoop) (s : State) (k : Nat) (j : Job) : State :=
  { s with
    port := .host, hostProg := [], job := j
    txs := s.txs ++ L.image k, txPlan := s.txPlan.drop k, txSeq := s.txSeq + k }

/-- The state `k` steps after `s`, in which the refresh is issued. -/
def RefreshLoop.after (L : RefreshLoop) (s : State) : Nat → State
  | 0 => s
  | k + 1 => if k + 1 < L.frames then L.sent s (k + 1) (L.job (k + 1))
    else L.finish (L.sent s (k + 1) .idle)

/-- Along states that each step to the next one, a run is at the state of its number of steps. -/
theorem run_along {σ : Nat → State} {n : Nat} (h : ∀ k, k < n → step (σ k) = .next (σ (k + 1))) :
    Host.Core.run core n (σ 0) = .next (σ n) := by
  induction n generalizing σ with
  | zero => rfl
  | succ n ih =>
    rw [run_succ (h 0 n.succ_pos)]
    exact ih (σ := fun k => σ (k + 1)) fun k hk => h (k + 1) (Nat.succ_lt_succ hk)

namespace RefreshLoop

variable {L : RefreshLoop} {s : State} {k : Nat}

theorem image_succ : L.image (k + 1) = L.image k ++ L.frame k := by
  simp [image, List.range_succ]

/-- Before its first frame a refresh has been issued, and no more. -/
theorem sent_zero (hj : s.job = .idle) :
    L.sent s 0 .idle = { s with port := .host, hostProg := [] } := by
  simp [sent, image, ← hj]

theorem nextOutcome_sent {plan : List TxOutcome} (j : Job)
    (hplan : s.txPlan = List.replicate L.frames .ok ++ plan) (hk : k < L.frames) :
    nextOutcome (L.sent s k j) = .ok := by
  obtain ⟨m, hm⟩ := Nat.exists_eq_add_of_lt hk
  have hrest : (L.sent s k j).txPlan = .ok :: (List.replicate m .ok ++ plan) := by
    simp [sent, hplan, hm, List.drop_append, List.replicate_succ, Nat.add_assoc]
  simp only [nextOutcome, hrest]

/-- ENV takes one more frame. -/
theorem txEmit_sent (j j' : Job) (hok : nextOutcome (L.sent s k j) = .ok) :
    { txEmit (L.frame k) (L.sent s k j) with job := j' } = L.sent s (k + 1) j' := by
  rw [txEmit_ok hok]
  simp [sent, image_succ, Nat.add_assoc]

/-- The emission of frame `k`, where ENV takes it. -/
theorem emitThen_sent {b : Bool} {j : Job} (hok : nextOutcome (L.sent s k j) = .ok) :
    emitThen b (L.frame k) (L.sent s k j) (L.goOn k) = L.after s (k + 1) := by
  rw [emitThen_ok hok, goOn, after, txEmit_sent j _ hok, ← L.finish_job _ .idle,
    txEmit_sent j _ hok]

/-- A refresh that nothing interleaves and whose frames ENV takes runs to its end. -/
theorem run_frames {plan : List TxOutcome}
    (hplan : s.txPlan = List.replicate L.frames .ok ++ plan) (hpos : 0 < L.frames)
    (hfirst : step s = .next (emitThen false (L.frame 0) (L.sent s 0 .idle) (L.goOn 0)))
    (hlater : ∀ k, 0 < k → k < L.frames → step (L.sent s k (L.job k)) =
      .next (emitThen true (L.frame k) (L.sent s k (L.job k)) (L.goOn k))) :
    Host.Core.run core L.frames s = .next (L.finish (L.sent s L.frames .idle)) := by
  have hend : L.after s L.frames = L.finish (L.sent s L.frames .idle) := by
    obtain ⟨n, hn⟩ := Nat.exists_eq_succ_of_ne_zero hpos.ne'
    rw [hn, after, if_neg (by omega)]
  rw [← hend]
  refine run_along (σ := L.after s) fun k hk => ?_
  cases k with
  | zero => rw [after, hfirst, emitThen_sent (nextOutcome_sent _ hplan hk)]
  | succ k =>
    rw [after, if_pos hk, hlater _ k.succ_pos hk, emitThen_sent (nextOutcome_sent _ hplan hk)]

/-- A state inside the loop meets the invariant if its job is within its bounds. -/
theorem sent_inv (h : s.Inv) {j : Job} (hj : (L.sent s k j).jobOk) : (L.sent s k j).Inv :=
  { h with job := hj }

end RefreshLoop

/-! ### The two loops (rules R159, R160) -/

/-- The grid loop of a refresh issued in `s`. -/
def gridLoop (s : State) (thenArc : Bool) : RefreshLoop where
  frames := quads s.columns.toNat * quads s.rows.toNat
  frame k := frameBytes s .gmap (gmapPayload s s.columns.toNat s.rows.toNat k)
  job k := .gridFrames s.columns.toNat s.rows.toNat k thenArc
  finish := gridDone thenArc
  finish_job _ _ := rfl

/-- The arc loop of a refresh issued in `s`. -/
def arcLoop (s : State) : RefreshLoop where
  frames := s.encoders.toNat
  frame n := frameBytes s .amap (amapPayload s n)
  job n := .arcFrames s.encoders.toNat n
  finish := arcDone
  finish_job _ _ := rfl

section
variable {s : State} {i : Instr} {cw : Command}

/-- HOST's turn in which it issues its one command word. -/
theorem step_oneWord (hs : s.Inv) (hsched : s.schedule = []) (hj : s.job = .idle)
    (hc : s.hostProg = [cw]) (hd : decodeCommand cw = .ok i)
    (ha : portAllows s.cfg .host i = true) :
    step s = exec i { s with port := .host, hostProg := [] } := by
  rw [step_schedule_nil hs.profile hsched, hostTurn_exec hj hc hd ha]

/-- A later turn of the grid loop. -/
theorem step_gridLoop (hs : s.Inv) (hsched : s.schedule = []) (hd : s.gridDirty = true)
    {thenArc : Bool} {k : Nat} (hk : k < (gridLoop s thenArc).frames) :
    step ((gridLoop s thenArc).sent s k ((gridLoop s thenArc).job k)) =
      .next (emitThen true ((gridLoop s thenArc).frame k)
        ((gridLoop s thenArc).sent s k ((gridLoop s thenArc).job k))
        ((gridLoop s thenArc).goOn k)) := by
  have hinv : ((gridLoop s thenArc).sent s k ((gridLoop s thenArc).job k)).Inv :=
    RefreshLoop.sent_inv hs ⟨hs.gridDirty_area hd, hk⟩
  exact (step_gridFrames hinv hsched rfl).trans (gridTurn_frame (hs.gridDirty_area hd) hk _ _)

/-- A later turn of the arc loop. -/
theorem step_arcLoop (hs : s.Inv) (hsched : s.schedule = []) (hd : s.arcDirty = true)
    {n : Nat} (hn : n < (arcLoop s).frames) :
    step ((arcLoop s).sent s n ((arcLoop s).job n)) =
      .next (emitThen true ((arcLoop s).frame n) ((arcLoop s).sent s n ((arcLoop s).job n))
        ((arcLoop s).goOn n)) := by
  have hinv : ((arcLoop s).sent s n ((arcLoop s).job n)).Inv :=
    RefreshLoop.sent_inv hs ⟨hs.arcDirty_rings hd, hn⟩
  exact (step_arcFrames hinv hsched rfl).trans (arcTurn_frame (hs.arcDirty_rings hd) hn _)

theorem decodeCommand_gridRefresh (h : cw = 0x3700000000000000 ∨ cw = 0x3900000000000000) :
    ∃ i, (i = .refreshg ∨ i = .refresh) ∧ decodeCommand cw = .ok i := by
  rcases h with rfl | rfl
  · exact ⟨.refreshg, .inl rfl, by decide⟩
  · exact ⟨.refresh, .inr rfl, by decide⟩

theorem decodeCommand_arcRefresh (h : cw = 0x3800000000000000 ∨ cw = 0x3900000000000000) :
    ∃ i, (i = .refresha ∨ i = .refresh) ∧ decodeCommand cw = .ok i := by
  rcases h with rfl | rfl
  · exact ⟨.refresha, .inl rfl, by decide⟩
  · exact ⟨.refresh, .inr rfl, by decide⟩

end

/-- Settles O43: the first turn and the later ones are those of the grid loop, which runs to its
end; no arc part follows, since only the grid region is due. -/
theorem refreshSendsWholeGrid : Obligations.RefreshSendsWholeGrid := by
  intro s cw plan hs hsched hcw hc hj ha hd hplan
  obtain ⟨i, hi, hdec⟩ := decodeCommand_gridRefresh hcw
  have hallow : portAllows s.cfg .host i = true := by rcases hi with rfl | rfl <;> rfl
  have hissued : State.Inv { s with port := .host, hostProg := [] } := hs.withAgents
  obtain ⟨thenArc, hrun⟩ := exec_refresh_grid_emits hissued ha hd hi
  obtain ⟨hrows, hcolumns, -⟩ := hs.dims.1 (hs.dirty.1 hd)
  have hfirst := (step_oneWord hs hsched hj hc hdec hallow).trans hrun
  rw [← (gridLoop s thenArc).sent_zero hj] at hfirst
  have hend := (gridLoop s thenArc).run_frames hplan
    (Nat.mul_pos (quads_pos hcolumns) (quads_pos hrows)) hfirst
    fun _ _ => step_gridLoop hs hsched hd
  exact ⟨_, hend.trans (congrArg _ (gridDone_answers thenArc (hs.arcDirty_eq_false hd))), rfl, rfl,
    rfl, rfl, ha, rfl⟩

/-- Settles O44: the first turn and the later ones are those of the arc loop, which runs to its
end. -/
theorem refreshSendsWholeArc : Obligations.RefreshSendsWholeArc := by
  intro s cw plan hs hsched hcw hc hj ha hd hplan
  obtain ⟨i, hi, hdec⟩ := decodeCommand_arcRefresh hcw
  have hallow : portAllows s.cfg .host i = true := by rcases hi with rfl | rfl <;> rfl
  have hissued : State.Inv { s with port := .host, hostProg := [] } := hs.withAgents
  obtain ⟨hpos, hle⟩ := hs.dims.2.1 (hs.dirty.2 hd)
  have hfirst := (step_oneWord hs hsched hj hc hdec hallow).trans
    (exec_refresh_arc_emits hissued ha hd hi)
  rw [← (arcLoop s).sent_zero hj] at hfirst
  have hend := (arcLoop s).run_frames hplan hpos hfirst fun _ _ => step_arcLoop hs hsched hd
  exact ⟨_, hend, rfl, rfl, rfl, rfl, ha, rfl⟩

end Sys2Proof.Machine
end

section
/-! SUPPORT. The controller's operations (rules R29, R193 to R196): the setups, SETROT and RDREG by the
test that each passes or fails, and a connection that is set up again (rules R224, R234). -/

namespace Sys2Proof.Machine

section
variable {s : State}

/-! ### The setups (rules R193, R194) -/

theorem gridMode_eq_false_of_not_isGrid (h : s.isGrid = false) : gridMode s = false := by
  simp [gridMode, h]

theorem arcMode_eq_false_of_isGrid (h : s.isGrid = true) : arcMode s = false := by
  simp [arcMode, h]

theorem exec_setupg_wrongMode (r c : Byte) (hm : arcMode s = true) :
    exec (.setupg r c) s = .next (raise .modeError s) := if_pos hm

theorem exec_setupa_wrongMode (n : Byte) (hm : gridMode s = true) :
    exec (.setupa n) s = .next (raise .modeError s) := if_pos hm

theorem exec_setupg_legal {r c : Byte} (hm : arcMode s = false)
    (hd : 1 ≤ r.toNat ∧ 1 ≤ c.toNat ∧ r.toNat * c.toNat ≤ ledn) :
    exec (.setupg r c) s = .next (done { s with
      rows := r, columns := c, configured := true, isGrid := true, active := true } 0 0 0) := by
  rw [exec, execSetupg, hm, if_neg Bool.false_ne_true, if_pos hd]

theorem exec_setupa_legal {n : Byte} (hm : gridMode s = false)
    (hd : 1 ≤ n.toNat ∧ n.toNat ≤ arcRings) :
    exec (.setupa n) s = .next (done { s with
      encoders := n, configured := true, isGrid := false, active := true } 0 0 0) := by
  rw [exec, execSetupa, hm, if_neg Bool.false_ne_true, if_pos hd]

theorem exec_setupg_outOfRange {r c : Byte} (hm : arcMode s = false)
    (hd : r.toNat = 0 ∨ c.toNat = 0 ∨ ledn < r.toNat * c.toNat) :
    exec (.setupg r c) s = .next (raise .rangeError s) := by
  rw [exec, execSetupg, hm, if_neg Bool.false_ne_true, if_neg (by omega)]

theorem exec_setupa_outOfRange {n : Byte} (hm : gridMode s = false)
    (hd : n.toNat = 0 ∨ arcRings < n.toNat) :
    exec (.setupa n) s = .next (raise .rangeError s) := by
  rw [exec, execSetupa, hm, if_neg Bool.false_ne_true, if_neg (by omega)]

/-! ### SETROT (rule R195) -/

theorem exec_setrot_legal {r : Byte} (hr : r.toNat ≤ 3) :
    exec (.setrot r) s = .next (done { s with rotation := r.setWidth 2 } 0 0 0) :=
  if_neg (Nat.not_lt.2 hr)

theorem exec_setrot_outOfRange {r : Byte} (hr : 3 < r.toNat) :
    exec (.setrot r) s = .next (raise .rangeError s) := if_pos hr

/-- A rotation keeps its value in ROTATION's two bits. -/
theorem toNat_rotation {r : Byte} (hr : r.toNat ≤ 3) : (r.setWidth 2).toNat = r.toNat := by
  rw [BitVec.toNat_setWidth, Nat.mod_eq_of_lt (Nat.lt_succ_of_le hr)]

/-! ### RDREG (rules R29, R196) -/

theorem exec_rdreg_some {n v : Byte} (h : readReg s n = some v) :
    exec (.rdreg n) s = .next (done s 0 0 v) := by
  simp only [exec, execRdreg, h]

theorem exec_rdreg_none {n : Byte} (h : readReg s n = none) :
    exec (.rdreg n) s = .next (raise .rangeError s) := by
  simp only [exec, execRdreg, h]

/-- Past the named registers only the bytes of deviceID have a number (rule R29). -/
theorem readReg_past_named {n : Byte} (h : 6 < n.toNat) :
    readReg s n = if 0x10 ≤ n.toNat ∧ n.toNat < 0x10 + s.cfg.profile.idLen then
      some (Memory.read 0 s.deviceId (n.toNat - 0x10)) else none := by
  unfold readReg
  split
  case h_8 => rfl
  all_goals exact absurd h (by decide)

theorem readReg_deviceId {n : Byte} (hlo : 0x10 ≤ n.toNat)
    (hhi : n.toNat < 0x10 + s.cfg.profile.idLen) :
    readReg s n = some (Memory.read 0 s.deviceId (n.toNat - 0x10)) := by
  rw [readReg_past_named (by omega), if_pos ⟨hlo, hhi⟩]

theorem readReg_unassigned {n : Byte} (h : 6 < n.toNat)
    (hout : n.toNat < 0x10 ∨ 0x10 + s.cfg.profile.idLen ≤ n.toNat) : readReg s n = none := by
  rw [readReg_past_named h, if_neg (by omega)]

theorem readReg_rotation : readReg s 5 = some (BitVec.ofNat 8 s.rotation.toNat) := by
  rw [← rotation_ofNat]
  rfl

end

/-! ### The statements -/

/-- Settles O53: the mode is tested before the dimensions, and a setup that passes both tests
answers OK. -/
theorem setupConfiguresItsMode : Obligations.SetupConfiguresItsMode := by
  refine ⟨fun cw => ⟨fun h => ?_, fun h => ?_⟩, fun s => ⟨exec_setupg_wrongMode,
    exec_setupa_wrongMode, fun r c hm => ⟨fun hr hc harea => ?_, exec_setupg_outOfRange hm⟩,
    fun n hm => ⟨fun hpos hle => ?_, exec_setupa_outOfRange hm⟩⟩⟩
  · simp [opMapIsExact.2, h]
  · simp [opMapIsExact.2, h]
  · exact exec_setupg_legal hm ⟨hr, hc, harea⟩
  · exact exec_setupa_legal hm ⟨hpos, hle⟩

/-- Settles O54: the one test of SETROT, and the value its two bits hold. -/
theorem setrotIsValidated : Obligations.SetrotIsValidated :=
  ⟨fun cw h => by simp [opMapIsExact.2, h],
    fun _ _ => ⟨fun hr => ⟨_, exec_setrot_legal hr, rfl, toNat_rotation hr⟩,
      exec_setrot_outOfRange⟩⟩

/-- Settles O55: RDREG answers what its number reads, by the rows of rule R29. -/
theorem registersReadByNumber : Obligations.RegistersReadByNumber :=
  ⟨fun cw h => by simp [opMapIsExact.2, h],
    fun _ => ⟨exec_rdreg_some rfl, exec_rdreg_some rfl, exec_rdreg_some rfl, exec_rdreg_some rfl,
      exec_rdreg_some rfl, exec_rdreg_some readReg_rotation, exec_rdreg_some rfl,
      fun _ hlo hhi => exec_rdreg_some (readReg_deviceId hlo hhi),
      fun _ h hout => exec_rdreg_none (readReg_unassigned h hout)⟩⟩

/-- Settles O57: a dropped connection keeps the mode and its dimensions, which the invariant says
are legal, so that the setup passes both of its tests. -/
theorem setupRevivesDroppedConnection : Obligations.SetupRevivesDroppedConnection := by
  intro s hs hc
  refine ⟨fun hg => ?_, fun hg => ?_⟩
  · have hmode : arcMode (dropConnection s) = false := arcMode_eq_false_of_isGrid hg
    have hdims := hs.dims.1 (gridMode_iff.2 ⟨hc, hg⟩)
    exact ⟨_, exec_setupg_legal hmode hdims, rfl, rfl, rfl, rfl, rfl, rfl, rfl, rfl, rfl⟩
  · have hmode : gridMode (dropConnection s) = false := gridMode_eq_false_of_not_isGrid hg
    have hdims := hs.dims.2.1 (arcMode_iff.2 ⟨hc, hg⟩)
    exact ⟨_, exec_setupa_legal hmode hdims, rfl, rfl, rfl, rfl, rfl, rfl, rfl, rfl⟩

end Sys2Proof.Machine
end

section
/-! SUPPORT. The tilt tracker's switch (rule R210): SETTILT by the test of its sensor number, and what
the cache holds after it. -/

namespace Sys2Proof.Machine

section
variable {s : State} {n : Byte} {v : Bool}

theorem exec_settilt_legal (hn : n.toNat < ntilt) :
    exec (.settilt n v) s = .next (done
      (setTiltRec s n.toNat { tiltRec s n.toNat with active := v }) 0 0 0) :=
  if_neg (Nat.not_le.2 hn)

theorem exec_settilt_outOfRange (hn : ntilt ≤ n.toNat) :
    exec (.settilt n v) s = .next (raise .rangeError s) := if_pos hn

end

/-- Switching a sensor keeps what its record says of the last sample, and the other records. -/
theorem tiltRec_setTiltRec_active {s : State}
    (hw : Memory.wf TiltRec.zero ntilt s.tilt = true) (n k : Nat) (v : Bool) :
    tiltRec (setTiltRec s n { tiltRec s n with active := v }) k =
      if k = n then { tiltRec s k with active := v } else tiltRec s k := by
  rw [tiltRec_setTiltRec hw]
  by_cases hk : k = n
  · rw [hk]
  · rw [if_neg hk, if_neg hk]

/-- Settles O58: SETTILT past its one test replaces one record of the cache and answers OK. -/
theorem settiltTogglesSensor : Obligations.SettiltTogglesSensor :=
  ⟨fun cw h => by simp [opMapIsExact.2, h],
    fun _ n v => ⟨fun hn hw => ⟨_, exec_settilt_legal hn, rfl,
      fun k => tiltRec_setTiltRec_active hw n.toNat k v⟩, exec_settilt_outOfRange⟩⟩

end Sys2Proof.Machine
end

section
/-! SUPPORT. What a queue does at its bounds: an add to a full one, by an operation or by an
accepted frame, and a read of an empty one (rules R104, R105, R108, R109, R124, R125, R225, R226). -/

namespace Sys2Proof.Machine

section
variable {s : State}

/-! ### An add to a full queue (rule R225) -/

theorem qAddG_full (e : GridEvent) (h : s.gq.count = qcap) :
    qAddG e s = label (.capacityDrop .grid) s := if_pos h

theorem qAddA_full (e : ArcEvent) (h : s.aq.count = qcap) :
    qAddA e s = label (.capacityDrop .arc) s := if_pos h

/-- The operations answer OK to an event that is lost. -/
theorem exec_addg_full (x y : Byte) (v : Bool) (h : s.gq.count = qcap) :
    exec (.addg x y v) s = .next (done (label (.capacityDrop .grid) s) 0 0 0) := by
  rw [exec, execAddg, qAddG_full _ h]

theorem exec_adda_full (n d : Byte) (h : s.aq.count = qcap) :
    exec (.adda n d) s = .next (done (label (.capacityDrop .arc) s) 0 0 0) := by
  rw [exec, execAdda, qAddA_full _ h]

theorem keyFrame_full {xp yp : Byte} (v : Bool) (hc : s.gq.count = qcap) (hm : gridMode s = true)
    (hx : xp.toNat < s.columns.toNat) (hy : yp.toNat < s.rows.toNat) :
    keyFrame v xp yp s = label (.capacityDrop .grid) s := by
  rw [keyFrame, if_pos ⟨hm, hx, hy⟩]
  exact qAddG_full _ hc

theorem encFrame_full {n d : Byte} (hc : s.aq.count = qcap) (hm : arcMode s = true)
    (hn : n.toNat < s.encoders.toNat) : encFrame n d s = label (.capacityDrop .arc) s := by
  rw [encFrame, if_pos ⟨hm, hn⟩, qAddA_full _ hc]

/-! ### A read of an empty queue (rule R226) -/

theorem Ring.empty_iff {α : Type} {q : Ring α} : q.empty = true ↔ q.count = 0 := beq_iff_eq

theorem exec_rdg_empty (h : s.gq.count = 0) :
    exec .rdg s = .next (raise (.emptyRead .grid) s) := by
  rw [exec, execRdg, if_pos (Ring.empty_iff.2 h)]

theorem exec_rda_empty (h : s.aq.count = 0) :
    exec .rda s = .next (raise (.emptyRead .arc) s) := by
  rw [exec, execRda, if_pos (Ring.empty_iff.2 h)]

end

/-- Settles O19: on a full queue every add, by an operation or by an accepted frame, is the label
alone. -/
theorem fullQueueDropsNewest : Obligations.FullQueueDropsNewest :=
  ⟨fun _ x y v hc => exec_addg_full x y v hc, fun _ n d hc => exec_adda_full n d hc,
    fun _ _ _ hc hm hx hy => ⟨congrArg Host.Outcome.next (keyFrame_full true hc hm hx hy),
      congrArg Host.Outcome.next (keyFrame_full false hc hm hx hy)⟩,
    fun _ _ _ hc hm hn => congrArg Host.Outcome.next (encFrame_full hc hm hn)⟩

/-- Settles O21: a read of an empty queue raises EmptyRead, which has no effect but its response. -/
theorem emptyReadReturnsSentinel : Obligations.EmptyReadReturnsSentinel :=
  ⟨fun _ => exec_rdg_empty, fun _ => exec_rda_empty⟩

end Sys2Proof.Machine
end

section
/-! SUPPORT. The operations that move bytes, where their gate is closed (rule R230): `active` for
the transmitting ones, `rx_en` for POLL and RXBYTE (rule R27). -/

namespace Sys2Proof.Machine

section
variable {s : State}

theorem rxEn_eq_false_iff : rxEn s = false ↔ s.active = false ∧ s.probing = false :=
  Bool.or_eq_false_iff

/-! ### The transmitting operations (rules R159 to R163, R211) -/

theorem exec_refreshg_inactive (h : s.active = false) :
    exec .refreshg s = .next (raise .inactive s) := by
  simp [exec, execRefreshg, h]

theorem exec_refresha_inactive (h : s.active = false) :
    exec .refresha s = .next (raise .inactive s) := by
  simp [exec, execRefresha, h]

theorem exec_refresh_inactive (h : s.active = false) :
    exec .refresh s = .next (raise .inactive s) := by
  simp [exec, execRefresh, h]

/-- SENDSIZE tests the mode first. -/
theorem exec_sendsize_inactive (hc : s.configured = true) (h : s.active = false) :
    exec .sendsize s = .next (raise .inactive s) := by
  simp [exec, execSendsize, hc, h]

theorem exec_sendrot_inactive (h : s.active = false) :
    exec .sendrot s = .next (raise .inactive s) := by
  simp [exec, execSendrot, h]

/-- SENDTILT tests the sensor number first, and stores no sample before `active` is tested. -/
theorem exec_sendtilt_inactive {n : Byte} (x y z : Half) (hn : n.toNat < ntilt)
    (h : s.active = false) : exec (.sendtilt n x y z) s = .next (raise .inactive s) := by
  rw [exec, execSendtilt, if_neg (Nat.not_le.2 hn), h]
  rfl

/-! ### The receiving operations (rules R120, R121) -/

theorem exec_rxbyte_disabled (h : rxEn s = false) :
    exec .rxbyte s = .next (raise .inactive s) := by
  simp [exec, execRxbyte, h]

end

/-- Settles O49: each operation past its earlier tests raises Inactive, which has no effect but its
response. -/
theorem inactiveOperationsAreNoops : Obligations.InactiveOperationsAreNoops := by
  intro s ha
  refine ⟨exec_refreshg_inactive ha, exec_refresha_inactive ha, exec_refresh_inactive ha,
    fun hc => exec_sendsize_inactive hc ha, exec_sendrot_inactive ha,
    fun n x y z hn => exec_sendtilt_inactive x y z hn ha, fun hp => ?_⟩
  have hclosed : rxEn s = false := rxEn_eq_false_iff.2 ⟨ha, hp⟩
  exact ⟨exec_poll_disabled hclosed, exec_rxbyte_disabled hclosed⟩

end Sys2Proof.Machine
end
